-- ==== Sys2Proof/Word.lean ====
section
/-! DEFINITION. The word types of RSM (00_scope.md rule R7): every unsigned or two's-complement field of a stated width
is a bit vector of that width; mathematical integers are `Nat` and `Int`. -/

namespace Sys2Proof

/-- `byte` = `u8` (R7); an `i8` is the same eight bits read with `BitVec.toInt`. -/
abbrev Byte := BitVec 8

/-- `u16` and `i16` (R7). -/
abbrev Half := BitVec 16

/-- `u32` (R7). -/
abbrev Word := BitVec 32

/-- A chip register address: 7 bits (20_memory.md rule R51). -/
abbrev Addr := BitVec 7

/-- The event vector, the pending register and a batch: 7 bits (30_encoding.md rule R83); also the callback set (R33). -/
abbrev EventVec := BitVec 7

end Sys2Proof
end

