-- ==== Sys2Proof/Syntax.lean ====
section
/-! DEFINITION. The syntax of RSM: its enumerations and the ONE inductive of its instructions, one constructor per row of
spec/opcode_table.json (30_encoding.md rule R103). The spec calls four things instructions (00_scope.md rule R2): host
commands (format C), event handlers (EV), bus primitives (B) and micro-operations (U). -/

namespace Sys2Proof

/-- `RadioState` (R13, R80); `cad` is the document's `CarrierAcquisitionDetect`. -/
inductive RadioState where
  | idle | rxRunning | txRunning | cad
  deriving DecidableEq, Repr

/-- `ModemKind` (R14, R81). -/
inductive ModemKind where
  | fsk | lora
  deriving DecidableEq, Repr

/-- `OpMode`: the modes the block writes into the mode field of `REG_OPMODE` (R82). -/
inductive OpMode where
  | sleep | standby | transmitter | receiver | receiverSingle | cad
  deriving DecidableEq, Repr

/-- The power-amplifier path (R6 `PA_SELECT`, R123). -/
inductive PaPath where
  | rfo | paBoost
  deriving DecidableEq, Repr

/-- The operands of `SET_RX_CONFIG` in the order of R87. -/
structure RxConfigArgs where
  modem : ModemKind
  bandwidth : Word
  datarate : Word
  coderate : Byte
  afcBandwidth : Word
  preambleLen : Half
  symbolTimeout : Half
  fixedLen : Bool
  payloadLen : Byte
  crcOn : Bool
  freqHopOn : Bool
  hopPeriod : Byte
  iqInverted : Bool
  rxContinuous : Bool
  deriving DecidableEq, Repr

/-- The operands of `SET_TX_CONFIG` in the order of R87; `power` is an `i8`. -/
structure TxConfigArgs where
  modem : ModemKind
  power : Byte
  freqDev : Word
  bandwidth : Word
  datarate : Word
  coderate : Byte
  preambleLen : Half
  fixedLen : Bool
  crcOn : Bool
  freqHopOn : Bool
  hopPeriod : Byte
  iqInverted : Bool
  timeoutMs : Word
  deriving DecidableEq, Repr

/-- One constructor per row of spec/opcode_table.json. -/
inductive Instr where
  -- format C, host commands (R87)
  | initRadio (callbacks : Byte)
  | setChannel (freqHz : Word)
  | getStatus
  | sleep
  | standby
  | setRxConfig (args : RxConfigArgs)
  | setTxConfig (args : TxConfigArgs)
  | send (size : Byte) (buffer : List Byte)
  | receive
  | startCad
  | setTxContinuousWave (freq : Word) (power : Byte) (duration : Half)
  | setMaxPayloadLength (modem : ModemKind) (max : Byte)
  | setPublicNetwork (enabled : Bool)
  | performCarrierSense (modem : ModemKind) (freq : Word) (rssiThreshold : Half) (maxDurationMs : Word)
  | timeOnAir (modem : ModemKind) (payloadLen : Byte)
  | random
  | checkRfFrequency (freq : Word)
  | lock
  | unlock
  -- format EV, event handlers (R91)
  | dio0Irq
  | dio1Irq
  | dio2Irq
  | dio3Irq
  | dio4Irq
  | dio5Irq
  | timeoutIrq
  -- format B, bus primitives (R92, R111 to R116)
  | writeRegister (addr : Addr) (value : Byte)
  | writeRegisters (addr : Addr) (bytes : List Byte)
  | readRegister (addr : Addr)
  | readRegisters (addr : Addr) (count : Nat)
  | writeFifo (bytes : List Byte)
  | readFifo (count : Nat)
  -- format U, micro-operations (R93)
  | setOperationMode (mode : OpMode)
  | setModem (kind : ModemKind)
  | radioReset
  | transmit (timeoutMs : Word)
  | setAntennaSwitch (mode : OpMode)
  | antennaLowPower
  | loadDefaultRegisters
  | setRfTxPower (power : Byte)
  | fskBandwidthCode (bwHz : Word)
  | txPowerEncode (power : Byte) (path : PaPath)
  | fskTimeOnAir (preambleLen syncWordLen addrFilterByte payloadLen crcBytes datarate : Nat)
  | loraTimeOnAir (bwHz sf cr preambleLen payloadLen : Nat) (crcOn fixedLen ldro : Bool)
  | fskRxAbort
  deriving DecidableEq, Repr

/-- The four formats (R85). -/
inductive Format where
  | command | event | bus | micro
  deriving DecidableEq, Repr

/-- The format of each instruction (spec/opcode_table.json, column `format`). -/
def Instr.format : Instr → Format
  | .initRadio _ | .setChannel _ | .getStatus | .sleep | .standby | .setRxConfig _ | .setTxConfig _ | .send _ _
  | .receive | .startCad | .setTxContinuousWave _ _ _ | .setMaxPayloadLength _ _ | .setPublicNetwork _
  | .performCarrierSense _ _ _ _ | .timeOnAir _ _ | .random | .checkRfFrequency _ | .lock | .unlock => .command
  | .dio0Irq | .dio1Irq | .dio2Irq | .dio3Irq | .dio4Irq | .dio5Irq | .timeoutIrq => .event
  | .writeRegister _ _ | .writeRegisters _ _ | .readRegister _ | .readRegisters _ _ | .writeFifo _
  | .readFifo _ => .bus
  | .setOperationMode _ | .setModem _ | .radioReset | .transmit _ | .setAntennaSwitch _ | .antennaLowPower
  | .loadDefaultRegisters | .setRfTxPower _ | .fskBandwidthCode _ | .txPowerEncode _ _ | .fskTimeOnAir _ _ _ _ _ _
  | .loraTimeOnAir _ _ _ _ _ _ _ _ | .fskRxAbort => .micro

end Sys2Proof
end

