-- ==== Sys2Proof/Config.lean ====
section
/-! DEFINITION. The parameter record of RSM (00_scope.md rule R6, 93_implementation_defined.md U17) as plain data, and the
free values that no source states. The record is carried, unchanged by every step, in `State.cfg`, so that a claim about
every state is a claim about every parameter record (R45; log entry 6). -/

namespace Sys2Proof

/-- The seven pins of `WIRING` (R6, R29). -/
inductive Pin where
  | rfSwitchCtl1 | rfSwitchCtl2 | txctl | rxctl | antSwitch | pwrAmpCtl | tcxo
  deriving DecidableEq, Repr

/-- The levels of R144's table, a column for each class of mode and one for the low-power posture: "a board that is wired
otherwise overrides them through `WIRING`". A pair is (`rf_switch_ctl1`, `rf_switch_ctl2`) for scheme A and
(`txctl`, `rxctl`) for scheme B. -/
structure SwitchLevels where
  aTxBoost : Bool × Bool
  aTxRfo : Bool × Bool
  aRx : Bool × Bool
  aOther : Bool × Bool
  aLow : Bool × Bool
  bTx : Bool × Bool
  bRx : Bool × Bool
  bOther : Bool × Bool
  bLow : Bool × Bool
  cTx : Bool
  cRx : Bool
  cOther : Bool
  cLow : Bool
  deriving DecidableEq, Repr

/-- `WIRING`: which of the seven pins are `Connected`; the others are `NC` (R6, R32); and the board's levels (R144; log
entry 21). -/
structure Wiring where
  rfSwitchCtl1 : Bool
  rfSwitchCtl2 : Bool
  txctl : Bool
  rxctl : Bool
  antSwitch : Bool
  pwrAmpCtl : Bool
  tcxo : Bool
  levels : SwitchLevels
  deriving DecidableEq, Repr

/-- Whether a pin is `Connected` (R32). -/
def Wiring.connected (w : Wiring) : Pin → Bool
  | .rfSwitchCtl1 => w.rfSwitchCtl1
  | .rfSwitchCtl2 => w.rfSwitchCtl2
  | .txctl => w.txctl
  | .rxctl => w.rxctl
  | .antSwitch => w.antSwitch
  | .pwrAmpCtl => w.pwrAmpCtl
  | .tcxo => w.tcxo

/-- `REGMAP`: the chip register addresses, masks, flag bits and mode values the rules name (R35 to R39, R82). `REG_FIFO`
is no field: its value 0 is in the source (R59). -/
structure RegMap where
  -- registers common to both modems (R35)
  opmode : Addr
  frfMsb : Addr
  frfMid : Addr
  frfLsb : Addr
  paConfig : Addr
  lna : Addr
  dioMapping1 : Addr
  dioMapping2 : Addr
  paDac : Addr
  -- fields of REG_OPMODE (R36) and the OpMode values (R82)
  opmodeModeMask : Byte
  opmodeLrm : Byte
  modeSleep : Byte
  modeStandby : Byte
  modeTransmitter : Byte
  modeReceiver : Byte
  modeReceiverSingle : Byte
  modeCad : Byte
  -- fields of the PA registers (R38)
  paSelect : Byte
  paSelectMask : Byte
  paPowerMask : Byte
  paDac20dBmMask : Byte
  paDac20dBmOn : Byte
  paDac20dBmOff : Byte
  -- FSK page (R39)
  rxConfig : Addr
  rxConfigRestartNoPll : Byte
  rssiValue : Addr
  afcMsb : Addr
  afcLsb : Addr
  syncConfig : Addr
  syncSizeMask : Byte
  packetConfig1 : Addr
  addrsFilteringMask : Byte
  packetConfig2 : Addr
  dataModeMask : Byte
  payloadLength : Addr
  fifoThresh : Addr
  fifoThreshMask : Byte
  irqFlags1 : Addr
  irq1Rssi : Byte
  irq1PreambleDetect : Byte
  irq1SyncAddressMatch : Byte
  irqFlags2 : Addr
  irq2CrcOk : Byte
  irq2FifoOverrun : Byte
  -- LoRa page (R39)
  lrFifoAddrPtr : Addr
  lrFifoTxBaseAddr : Addr
  lrFifoRxBaseAddr : Addr
  lrFifoRxCurrentAddr : Addr
  lrIrqFlagsMask : Addr
  lrIrqFlags : Addr
  lrRxTimeout : Byte
  lrRxDone : Byte
  lrPayloadCrcError : Byte
  lrValidHeader : Byte
  lrTxDone : Byte
  lrCadDone : Byte
  lrFhssChangedChannel : Byte
  lrCadDetected : Byte
  lrRxNbBytes : Addr
  lrPktSnrValue : Addr
  lrPktRssiValue : Addr
  lrRssiValue : Addr
  lrHopChannel : Addr
  hopChannelMask : Byte
  lrPayloadLength : Addr
  lrPayloadMaxLength : Addr
  lrRssiWideband : Addr
  lrSyncWord : Addr
  deriving DecidableEq, Repr

/-- One step of a chip write sequence (R98): `w` is `W(addr, value)`, `m` is `M(addr, andmask, ormask)`. -/
inductive SeqStep where
  | w (addr : Addr) (value : Byte)
  | m (addr : Addr) (andMask orMask : Byte)
  deriving DecidableEq, Repr

/-- The register a step writes. -/
def SeqStep.addr : SeqStep → Addr
  | .w addr _ => addr
  | .m addr _ _ => addr

/-- One triple of `INIT_REGS` (R102, R211). -/
structure InitEntry where
  kind : ModemKind
  addr : Addr
  value : Byte
  deriving DecidableEq, Repr

/-- Where `RXCFG` or `TXCFG` comes from (R101): one sequence whatever the settings, or any function of the modem and the
settings (`free k` names the k-th of the uninterpreted ones; log entry 8). -/
inductive ConfigSource where
  | steps (seq : List SeqStep)
  | free (k : Nat)
  deriving DecidableEq, Repr

/-- Where `CHANNEL_WRITES` comes from (R102): its default formula, or any function of the frequency (log entry 8). -/
inductive ChannelSource where
  | formula
  | free (k : Nat)
  deriving DecidableEq, Repr

/-- `CHIPSEQ` (R6, R98 to R102, R228). `txMapFsk` and `rxMapFsk` have no index: for FSK the indices are ignored (R100). -/
structure ChipSeq where
  initRegs : List InitEntry
  diomapFsk : List SeqStep
  diomapLora : List SeqStep
  txMapFsk : List SeqStep
  txMapLoraHop : List SeqStep
  txMapLoraNoHop : List SeqStep
  rxMapFsk : List SeqStep
  rxMapLoraHopCont : List SeqStep
  rxMapLoraHopSingle : List SeqStep
  rxMapLoraNoHopCont : List SeqStep
  rxMapLoraNoHopSingle : List SeqStep
  cadMap : List SeqStep
  fskRxAbortClear : List SeqStep
  cwMap : List SeqStep
  rxcfg : ConfigSource
  txcfg : ConfigSource
  channelWrites : ChannelSource
  deriving DecidableEq, Repr

/-- One pair of `FSK_BW_TABLE` (R120). -/
structure BwEntry where
  bw : Nat
  code : Byte
  deriving DecidableEq, Repr

/-- `SNR_WIDTH` (R6, R187): 4 or 8. -/
inductive SnrWidth where
  | w4 | w8
  deriving DecidableEq, Repr

/-- The parameter record (R6). `CALLBACKS` is no parameter but the state `cb_set` (R33). -/
structure Config where
  maxDataBufferSize : Nat
  fifoBurst : Nat
  fskSingleWriteMax : Nat
  resetLowMs : Nat
  resetWaitMs : Nat
  pollMs : Nat
  wakeMs : Nat
  workerPresent : Bool
  wiring : Wiring
  paSelect : PaPath
  regmap : RegMap
  chipSeq : ChipSeq
  fskBwTable : List BwEntry
  rssiOffset : Int
  snrWidth : SnrWidth
  syncwordPublic : Byte
  syncwordPrivate : Byte
  cwDurationUnitMs : Nat
  deriving DecidableEq, Repr

/-- FREE VALUE (log entry 1): the byte the chip answers to the k-th byte read, where the state scripts none (R9, R11, U2,
U3: "any value"). Nothing constrains it. -/
opaque Config.chipByte : Nat → Byte

/-- FREE VALUE (log entry 9): the k-th `draw natural` of `PERFORM_CARRIER_SENSE` (R227, D43), where the state scripts none;
the meaning bounds it by `max_duration_ms div POLL_MS`. -/
opaque Config.pollDraw : Nat → Nat

/-- FREE VALUE (log entry 8): the k-th uninterpreted `CHANNEL_WRITES` (R102), a function of the frequency. -/
opaque Config.channelWritesFree : Nat → Word → List SeqStep

/-- FREE VALUE (log entry 10): the `i16` stored for an RSSI that falls outside -32768..32767, which only a parameter
`RSSI_OFFSET` beyond the bound of R130 can give. -/
opaque Config.rssiUnstated : Int → Half

/-- FREE VALUE (log entry 10): the `u32` armed and stored for a continuous-wave timeout of 2^32 ms or more, which only a
parameter `CW_DURATION_UNIT_MS` above 65537 can give (R228 states no narrowing). -/
opaque Config.cwTimeoutUnstated : Nat → Word

/-- FREE VALUE (log entry 10): the `u8` stored in `chunk_size` for a first chunk above 255, which only parameters
`FIFO_BURST` or `FSK_SINGLE_WRITE_MAX` beyond the bound of R130 can give. -/
opaque Config.chunkUnstated : Nat → Byte

/-- FREE VALUE (log entry 10): the `u16` stored in `nb_bytes` for a first chunk of 65536 bytes or more, which only parameters
`FIFO_BURST` or `FSK_SINGLE_WRITE_MAX` beyond the bound of R130 can give. -/
opaque Config.nbBytesUnstated : Nat → Half

/-- FREE VALUE (log entry 9): the most polls of R227 for a duration under `POLL_MS` = 0, where `div` has no result (R7). -/
opaque Config.pollBoundUnstated : Word → Nat

end Sys2Proof
end

