-- ==== Sys2Proof/WellFormed.lean ====
section
/-! DEFINITION. The checks on an instruction's operands (R87, R93, R94, R112, R143) and on a parameter record (R6, R120,
R130). Operands whose type already fits their range need no check. -/

namespace Sys2Proof

/-- The operand checks of one instruction.
* `SEND`: the frame carries `size` payload bytes (R86, R94).
* `SET_ANTENNA_SWITCH`: "an `OpMode` value other than `Sleep`" (R143).
* bus primitives: the instruction is the one its own frame stands for. A burst of no bytes has no frame (R57), a burst of
  one byte has the frame of the single-register primitive, a burst at `REG_FIFO` = 0 that of the FIFO primitive (R97); such
  an alias still has its meaning, but its frame decodes to the other spelling (log entry 17).
* calculators: the natural operands fit the model's own call encoding of 4 bytes each (log entry 4). -/
def Instr.wellFormed : Instr → Bool
  | .initRadio _ => true
  | .setChannel _ => true
  | .getStatus => true
  | .sleep => true
  | .standby => true
  | .setRxConfig _ => true
  | .setTxConfig _ => true
  | .send size buffer => buffer.length == size.toNat
  | .receive => true
  | .startCad => true
  | .setTxContinuousWave _ _ _ => true
  | .setMaxPayloadLength _ _ => true
  | .setPublicNetwork _ => true
  | .performCarrierSense _ _ _ _ => true
  | .timeOnAir _ _ => true
  | .random => true
  | .checkRfFrequency _ => true
  | .lock => true
  | .unlock => true
  | .dio0Irq => true
  | .dio1Irq => true
  | .dio2Irq => true
  | .dio3Irq => true
  | .dio4Irq => true
  | .dio5Irq => true
  | .timeoutIrq => true
  | .writeRegister addr _ => addr != 0
  | .writeRegisters addr bytes => addr != 0 && decide (2 ≤ bytes.length)
  | .readRegister addr => addr != 0
  | .readRegisters addr count => addr != 0 && decide (2 ≤ count)
  | .writeFifo bytes => decide (1 ≤ bytes.length)
  | .readFifo count => decide (1 ≤ count)
  | .setOperationMode _ => true
  | .setModem _ => true
  | .radioReset => true
  | .transmit _ => true
  | .setAntennaSwitch mode => mode != .sleep
  | .antennaLowPower => true
  | .loadDefaultRegisters => true
  | .setRfTxPower _ => true
  | .fskBandwidthCode _ => true
  | .txPowerEncode _ _ => true
  | .fskTimeOnAir preambleLen syncWordLen addrFilterByte payloadLen crcBytes datarate =>
      [preambleLen, syncWordLen, addrFilterByte, payloadLen, crcBytes, datarate].all (fun n => decide (n < 2 ^ 32))
  | .loraTimeOnAir bwHz sf cr preambleLen payloadLen _ _ _ =>
      [bwHz, sf, cr, preambleLen, payloadLen].all (fun n => decide (n < 2 ^ 32))
  | .fskRxAbort => true

/-- `FSK_BW_TABLE` is ascending: `T[i].bw < T[i+1].bw` (R120). -/
def bwAscending : List BwEntry → Bool
  | [] => true
  | [_] => true
  | a :: b :: rest => decide (a.bw < b.bw) && bwAscending (b :: rest)

/-- The ranges R6, R120 and R130 give the parameters: `MAX_DATA_BUFFER_SIZE` at least 1, the reset waits at least 2 and 6
ms, a poll time that can be divided by, a first chunk no larger than a body it is cut from and within a byte, a bandwidth
table of at least two ascending entries. -/
def Config.wellFormed (c : Config) : Bool :=
  decide (1 ≤ c.maxDataBufferSize) && decide (2 ≤ c.resetLowMs) && decide (6 ≤ c.resetWaitMs) && decide (1 ≤ c.pollMs) &&
    decide (c.fifoBurst ≤ c.fskSingleWriteMax + 1) && decide (c.fskSingleWriteMax ≤ 255) && decide (c.fifoBurst ≤ 255) &&
    decide (2 ≤ c.fskBwTable.length) && bwAscending c.fskBwTable

end Sys2Proof
end

