-- ==== Sys2Proof/Decode.lean ====
section
/-! DEFINITION. The decoder of each format, total on any bytes and rejecting by name, and after it the encoder, both written
from the same tables of 30_encoding.md (R80 to R95). Command frames are the encoding the block itself decodes (R86, R87);
the event vector is R91; bus frames are R92. Micro-operations have no wire form (R93): the bytes after their identifier
are the model's own packing of their operands, used only by the model's internal-call input (DESIGN CHOICE, log entry 4). -/

namespace Sys2Proof

/-- Why a byte string is not an instruction. -/
inductive DecodeError where
  /-- No opcode byte, or a bus frame without an address byte. -/
  | empty
  /-- The first byte names nothing (R94). -/
  | unknownOpcode (b : Byte)
  /-- The length is not the one the table gives (R94). -/
  | badLength
  /-- A `modem` operand that is not 0 or 1 (R81, R94). -/
  | badModem (b : Byte)
  /-- The vector does not select exactly one handler (R91). -/
  | notOneEvent
  /-- A read frame whose filler is not 0x00 (R92). -/
  | badFiller
  /-- A mode or path code that names nothing (R82, R123). -/
  | badOperand (b : Byte)
  deriving DecidableEq, Repr

/-- The answer of a decoder. -/
inductive Decoded where
  | ok (i : Instr)
  | rejected (e : DecodeError)
  deriving DecidableEq, Repr

/-- The instruction of an answer, if it is one. -/
def Decoded.toOption : Decoded → Option Instr
  | .ok i => some i
  | .rejected _ => none

/-! ### Bytes, little-endian (R55, R86) -/

/-- The byte at offset `k`; 0 past the end, which no decoder reads. -/
def u8At (f : List Byte) (k : Nat) : Byte := f.getD k 0

/-- The `u16` at offset `k`, least significant byte first. -/
def u16At (f : List Byte) (k : Nat) : Half := u8At f (k + 1) ++ u8At f k

/-- The `u32` at offset `k`, least significant byte first. -/
def u32At (f : List Byte) (k : Nat) : Word := u16At f (k + 2) ++ u16At f k

/-- A `bool` operand is false when its byte is 0 and true for any other value (R86). -/
def boolAt (f : List Byte) (k : Nat) : Bool := u8At f k != 0

/-- The two bytes of a `u16` or `i16`, least significant first. -/
def le16 (v : Half) : List Byte := [v.extractLsb' 0 8, v.extractLsb' 8 8]

/-- The four bytes of a `u32`, least significant first. -/
def le32 (v : Word) : List Byte :=
  [v.extractLsb' 0 8, v.extractLsb' 8 8, v.extractLsb' 16 8, v.extractLsb' 24 8]

/-- A `bool` as a byte, 0 or 1 (R89). -/
def boolByte (b : Bool) : Byte := if b then 1 else 0

/-! ### Enumerations -/

/-- `RadioState` codes (R80). -/
def RadioState.code : RadioState → Byte
  | .idle => 0
  | .rxRunning => 1
  | .txRunning => 2
  | .cad => 3

/-- `ModemKind` codes (R81). -/
def ModemKind.code : ModemKind → Byte
  | .fsk => 0
  | .lora => 1

/-- The modem a `modem` operand byte names; 2 to 255 are refused (R81). -/
def ModemKind.ofByte (b : Byte) : Option ModemKind :=
  if b = 0 then some .fsk else if b = 1 then some .lora else none

/-- The codes of R82, as the model's call encoding uses them (log entry 4). -/
def OpMode.code : OpMode → Byte
  | .sleep => 0
  | .standby => 1
  | .transmitter => 3
  | .receiver => 5
  | .receiverSingle => 6
  | .cad => 7

/-- The mode a code of R82 names; 2 and 4 are never produced (R94). -/
def OpMode.ofByte (b : Byte) : Option OpMode :=
  if b = 0 then some .sleep else if b = 1 then some .standby else if b = 3 then some .transmitter
  else if b = 5 then some .receiver else if b = 6 then some .receiverSingle else if b = 7 then some .cad else none

/-- The call encoding of a path (log entry 4). -/
def PaPath.code : PaPath → Byte
  | .rfo => 0
  | .paBoost => 1

/-- The path a code names (log entry 4). -/
def PaPath.ofByte (b : Byte) : Option PaPath :=
  if b = 0 then some .rfo else if b = 1 then some .paBoost else none

/-! ### Format C: command frames (R86 to R88, R94, R95, R251) -/

/-- The frame is refused when it is shorter or longer than `n` bytes (R86, R94). -/
def ofLength (f : List Byte) (n : Nat) (d : Decoded) : Decoded :=
  if f.length = n then d else .rejected .badLength

/-- The `modem` operand at offset 1, checked after the length (R94, R251). -/
def withModem (f : List Byte) (d : ModemKind → Instr) : Decoded :=
  match ModemKind.ofByte (u8At f 1) with
  | some m => .ok (d m)
  | none => .rejected (.badModem (u8At f 1))

/-- `SET_RX_CONFIG`'s operands at the offsets of R87. -/
def rxConfigArgs (f : List Byte) (m : ModemKind) : RxConfigArgs where
  modem := m
  bandwidth := u32At f 2
  datarate := u32At f 6
  coderate := u8At f 10
  afcBandwidth := u32At f 11
  preambleLen := u16At f 15
  symbolTimeout := u16At f 17
  fixedLen := boolAt f 19
  payloadLen := u8At f 20
  crcOn := boolAt f 21
  freqHopOn := boolAt f 22
  hopPeriod := u8At f 23
  iqInverted := boolAt f 24
  rxContinuous := boolAt f 25

/-- `SET_TX_CONFIG`'s operands at the offsets of R87. -/
def txConfigArgs (f : List Byte) (m : ModemKind) : TxConfigArgs where
  modem := m
  power := u8At f 2
  freqDev := u32At f 3
  bandwidth := u32At f 7
  datarate := u32At f 11
  coderate := u8At f 15
  preambleLen := u16At f 16
  fixedLen := boolAt f 18
  crcOn := boolAt f 19
  freqHopOn := boolAt f 20
  hopPeriod := u8At f 21
  iqInverted := boolAt f 22
  timeoutMs := u32At f 23

/-- The decoder of the `CMD` port: byte 0 is the opcode, then the length check, then the `modem` check (R87, R94, R251). -/
def decodeCommand (f : List Byte) : Decoded :=
  match f with
  | [] => .rejected .empty
  | op :: _ =>
    match op.toNat with
    | 0x00 => ofLength f 2 (.ok (.initRadio (u8At f 1)))
    | 0x01 => ofLength f 5 (.ok (.setChannel (u32At f 1)))
    | 0x02 => ofLength f 1 (.ok .getStatus)
    | 0x03 => ofLength f 1 (.ok .sleep)
    | 0x04 => ofLength f 1 (.ok .standby)
    | 0x05 => ofLength f 26 (withModem f (fun m => .setRxConfig (rxConfigArgs f m)))
    | 0x06 => ofLength f 27 (withModem f (fun m => .setTxConfig (txConfigArgs f m)))
    | 0x07 => if f.length < 2 then .rejected .badLength
              else ofLength f (2 + (u8At f 1).toNat) (.ok (.send (u8At f 1) (f.drop 2)))
    | 0x08 => ofLength f 1 (.ok .receive)
    | 0x09 => ofLength f 1 (.ok .startCad)
    | 0x0A => ofLength f 8 (.ok (.setTxContinuousWave (u32At f 1) (u8At f 5) (u16At f 6)))
    | 0x0B => ofLength f 3 (withModem f (fun m => .setMaxPayloadLength m (u8At f 2)))
    | 0x0C => ofLength f 2 (.ok (.setPublicNetwork (boolAt f 1)))
    | 0x0D => ofLength f 12 (withModem f (fun m => .performCarrierSense m (u32At f 2) (u16At f 6) (u32At f 8)))
    | 0x0E => ofLength f 3 (withModem f (fun m => .timeOnAir m (u8At f 2)))
    | 0x0F => ofLength f 1 (.ok .random)
    | 0x10 => ofLength f 5 (.ok (.checkRfFrequency (u32At f 1)))
    | 0x11 => ofLength f 1 (.ok .lock)
    | 0x12 => ofLength f 1 (.ok .unlock)
    | _ => .rejected (.unknownOpcode op)

/-! ### Format EV: the event vector (R83, R91) -/

/-- Handler `i` of R91. -/
def handlerOf : Nat → Option Instr
  | 0 => some .dio0Irq
  | 1 => some .dio1Irq
  | 2 => some .dio2Irq
  | 3 => some .dio3Irq
  | 4 => some .dio4Irq
  | 5 => some .dio5Irq
  | 6 => some .timeoutIrq
  | _ => none

/-- "The worker decodes a batch vector `b` by testing, for `i` = 0, 1, ..., 6 in that order, whether `b[i] = 1`" (R91):
every handler whose bit is set, lower bit first. -/
def decodeBatch (b : EventVec) : List Instr :=
  (List.range 7).filterMap (fun i => if b.getLsbD i then handlerOf i else none)

/-- One handler as an instruction: a byte of which exactly that handler's bit is set (R83's masks). -/
def decodeEvent (f : List Byte) : Decoded :=
  match f with
  | [b] => match b.toNat with
    | 0x01 => .ok .dio0Irq
    | 0x02 => .ok .dio1Irq
    | 0x04 => .ok .dio2Irq
    | 0x08 => .ok .dio3Irq
    | 0x10 => .ok .dio4Irq
    | 0x20 => .ok .dio5Irq
    | 0x40 => .ok .timeoutIrq
    | _ => .rejected .notOneEvent
  | _ => .rejected .badLength

/-! ### Format B: bus frames (R92, R111 to R116) -/

/-- The data bytes of a write frame at an address. -/
def decodeBusWrite (addr : Addr) (data : List Byte) : Decoded :=
  match data with
  | [] => .rejected .badLength
  | [v] => if addr = 0 then .ok (.writeFifo [v]) else .ok (.writeRegister addr v)
  | _ => if addr = 0 then .ok (.writeFifo data) else .ok (.writeRegisters addr data)

/-- The filler bytes of a read frame at an address. -/
def decodeBusRead (addr : Addr) (filler : List Byte) : Decoded :=
  if filler.all (fun b => b == 0) then
    match filler.length with
    | 0 => .rejected .badLength
    | 1 => if addr = 0 then .ok (.readFifo 1) else .ok (.readRegister addr)
    | n + 2 => if addr = 0 then .ok (.readFifo (n + 2)) else .ok (.readRegisters addr (n + 2))
  else .rejected .badFiller

/-- A bus frame: the address byte is `W ++ addr[6:0]` (R92). -/
def decodeBus (f : List Byte) : Decoded :=
  match f with
  | [] => .rejected .empty
  | a :: data =>
    if a.getLsbD 7 then decodeBusWrite (a.setWidth 7) data else decodeBusRead (a.setWidth 7) data

/-! ### Format U: micro-operations (R93; operand packing: log entry 4) -/

/-- A mode operand at offset 1. -/
def withMode (f : List Byte) (d : OpMode → Instr) : Decoded :=
  match OpMode.ofByte (u8At f 1) with
  | some m => .ok (d m)
  | none => .rejected (.badOperand (u8At f 1))

/-- A natural operand of the call encoding: four bytes, least significant first. -/
def natAt (f : List Byte) (k : Nat) : Nat := (u32At f k).toNat

/-- The identifiers of R93, then the operands in the order R93 gives. -/
def decodeMicro (f : List Byte) : Decoded :=
  match f with
  | [] => .rejected .empty
  | op :: _ =>
    match op.toNat with
    | 0x80 => ofLength f 2 (withMode f .setOperationMode)
    | 0x81 => ofLength f 2 (withModem f .setModem)
    | 0x82 => ofLength f 1 (.ok .radioReset)
    | 0x83 => ofLength f 5 (.ok (.transmit (u32At f 1)))
    | 0x84 => ofLength f 2 (withMode f .setAntennaSwitch)
    | 0x85 => ofLength f 1 (.ok .antennaLowPower)
    | 0x86 => ofLength f 1 (.ok .loadDefaultRegisters)
    | 0x87 => ofLength f 2 (.ok (.setRfTxPower (u8At f 1)))
    | 0x88 => ofLength f 5 (.ok (.fskBandwidthCode (u32At f 1)))
    | 0x89 => ofLength f 3 (match PaPath.ofByte (u8At f 2) with
        | some p => .ok (.txPowerEncode (u8At f 1) p)
        | none => .rejected (.badOperand (u8At f 2)))
    | 0x8A => ofLength f 25
        (.ok (.fskTimeOnAir (natAt f 1) (natAt f 5) (natAt f 9) (natAt f 13) (natAt f 17) (natAt f 21)))
    | 0x8B => ofLength f 24
        (.ok (.loraTimeOnAir (natAt f 1) (natAt f 5) (natAt f 9) (natAt f 13) (natAt f 17)
          (boolAt f 21) (boolAt f 22) (boolAt f 23)))
    | 0x8C => ofLength f 1 (.ok .fskRxAbort)
    | _ => .rejected (.unknownOpcode op)

/-- The decoder of each format (R85). -/
def decode (p : Format) (f : List Byte) : Decoded :=
  match p with
  | .command => decodeCommand f
  | .event => decodeEvent f
  | .bus => decodeBus f
  | .micro => decodeMicro f

/-! ### The encoder -/

/-- A natural operand of the call encoding. -/
def leNat (n : Nat) : List Byte := le32 (BitVec.ofNat 32 n)

/-- The address byte of a bus frame: `W ++ addr[6:0]` (R92). -/
def busAddressByte (write : Bool) (addr : Addr) : Byte := BitVec.ofBool write ++ addr

/-- The bytes of an instruction in its own format (R86, R87, R91, R92, R93). A burst of no bytes has no frame (R57). -/
def encode : Instr → List Byte
  | .initRadio callbacks => [0x00, callbacks]
  | .setChannel freqHz => 0x01 :: le32 freqHz
  | .getStatus => [0x02]
  | .sleep => [0x03]
  | .standby => [0x04]
  | .setRxConfig a =>
      0x05 :: a.modem.code :: (le32 a.bandwidth ++ le32 a.datarate ++ [a.coderate] ++ le32 a.afcBandwidth
        ++ le16 a.preambleLen ++ le16 a.symbolTimeout ++ [boolByte a.fixedLen, a.payloadLen, boolByte a.crcOn,
          boolByte a.freqHopOn, a.hopPeriod, boolByte a.iqInverted, boolByte a.rxContinuous])
  | .setTxConfig a =>
      0x06 :: a.modem.code :: a.power :: (le32 a.freqDev ++ le32 a.bandwidth ++ le32 a.datarate ++ [a.coderate]
        ++ le16 a.preambleLen ++ [boolByte a.fixedLen, boolByte a.crcOn, boolByte a.freqHopOn, a.hopPeriod,
          boolByte a.iqInverted] ++ le32 a.timeoutMs)
  | .send size buffer => 0x07 :: size :: buffer
  | .receive => [0x08]
  | .startCad => [0x09]
  | .setTxContinuousWave freq power duration => 0x0A :: (le32 freq ++ [power] ++ le16 duration)
  | .setMaxPayloadLength modem max => [0x0B, modem.code, max]
  | .setPublicNetwork enabled => [0x0C, boolByte enabled]
  | .performCarrierSense modem freq threshold duration =>
      0x0D :: modem.code :: (le32 freq ++ le16 threshold ++ le32 duration)
  | .timeOnAir modem payloadLen => [0x0E, modem.code, payloadLen]
  | .random => [0x0F]
  | .checkRfFrequency freq => 0x10 :: le32 freq
  | .lock => [0x11]
  | .unlock => [0x12]
  | .dio0Irq => [0x01]
  | .dio1Irq => [0x02]
  | .dio2Irq => [0x04]
  | .dio3Irq => [0x08]
  | .dio4Irq => [0x10]
  | .dio5Irq => [0x20]
  | .timeoutIrq => [0x40]
  | .writeRegister addr value => [busAddressByte true addr, value]
  | .writeRegisters addr bytes => if bytes.length = 0 then [] else busAddressByte true addr :: bytes
  | .readRegister addr => [busAddressByte false addr, 0]
  | .readRegisters addr count => if count = 0 then [] else busAddressByte false addr :: List.replicate count 0
  | .writeFifo bytes => if bytes.length = 0 then [] else busAddressByte true 0 :: bytes
  | .readFifo count => if count = 0 then [] else busAddressByte false 0 :: List.replicate count 0
  | .setOperationMode mode => [0x80, mode.code]
  | .setModem kind => [0x81, kind.code]
  | .radioReset => [0x82]
  | .transmit timeoutMs => 0x83 :: le32 timeoutMs
  | .setAntennaSwitch mode => [0x84, mode.code]
  | .antennaLowPower => [0x85]
  | .loadDefaultRegisters => [0x86]
  | .setRfTxPower power => [0x87, power]
  | .fskBandwidthCode bwHz => 0x88 :: le32 bwHz
  | .txPowerEncode power path => [0x89, power, path.code]
  | .fskTimeOnAir a b c d e r => 0x8A :: (leNat a ++ leNat b ++ leNat c ++ leNat d ++ leNat e ++ leNat r)
  | .loraTimeOnAir bw sf cr pre len crcOn fixedLen ldro =>
      0x8B :: (leNat bw ++ leNat sf ++ leNat cr ++ leNat pre ++ leNat len
        ++ [boolByte crcOn, boolByte fixedLen, boolByte ldro])
  | .fskRxAbort => [0x8C]

/-- The spelling a bus frame decodes to: "`FifoWrite(bytes)` expands to `RegWriteBurst(REG_FIFO, bytes)`" (R97), and a burst
of one byte is the single-register primitive. Every other instruction is itself. -/
def Instr.canonical : Instr → Instr
  | .writeRegister addr v => if addr = 0 then .writeFifo [v] else .writeRegister addr v
  | .writeRegisters addr [v] => if addr = 0 then .writeFifo [v] else .writeRegister addr v
  | .writeRegisters addr bytes => if addr = 0 then .writeFifo bytes else .writeRegisters addr bytes
  | .readRegister addr => if addr = 0 then .readFifo 1 else .readRegister addr
  | .readRegisters addr 1 => if addr = 0 then .readFifo 1 else .readRegister addr
  | .readRegisters addr n => if addr = 0 then .readFifo n else .readRegisters addr n
  | i => i

/-! ### One opcode-table word (log entry 5) -/

/-- The bytes of a table word, bit 0 the least significant bit of the first byte. -/
def wordBytes : Nat → Nat → List Byte
  | 0, _ => []
  | k + 1, w => BitVec.ofNat 8 w :: wordBytes k (w / 256)

/-- The length of the command frame or the micro-operation call that these bytes begin (R87; log entry 4); 1 where the
first byte names neither. -/
def frameLength (f : List Byte) : Nat :=
  match (u8At f 0).toNat with
  | 0x00 => 2
  | 0x01 => 5
  | 0x05 => 26
  | 0x06 => 27
  | 0x07 => 2 + (u8At f 1).toNat
  | 0x0A => 8
  | 0x0B => 3
  | 0x0C => 2
  | 0x0D => 12
  | 0x0E => 3
  | 0x10 => 5
  | 0x80 => 2
  | 0x81 => 2
  | 0x83 => 5
  | 0x84 => 2
  | 0x87 => 2
  | 0x88 => 5
  | 0x89 => 3
  | 0x8A => 25
  | 0x8B => 24
  | _ => 1

/-- The given bytes with zeros after them, cut to a length: "every bit the instruction has above nbits is 0". -/
def zeroFill (f : List Byte) (n : Nat) : List Byte := (f ++ List.replicate n 0).take n

/-- Which port a bare table word is taken to stand on. The table's four formats share byte values, and nothing in a word
says which port it is on, so the model tries `CMD` first, then the micro-operation identifiers, then a single event bit,
then the bus (DESIGN CHOICE, log entry 5). -/
def tableFormat (f : List Byte) : Format :=
  let b := (u8At f 0).toNat
  if b ≤ 0x12 then .command
  else if 0x80 ≤ b ∧ b ≤ 0x8C then .micro
  else if b = 0x20 ∨ b = 0x40 then .event
  else .bus

/-- The frame a table word stands for, laid out as the port takes it. -/
def tableFrame (nbits w : Nat) : List Byte :=
  let f := wordBytes ((nbits + 7) / 8) w
  match tableFormat f with
  | .command => zeroFill f (frameLength f)
  | .micro => zeroFill f (frameLength f)
  | .event => zeroFill f 1
  | .bus => zeroFill f (max 2 f.length)

/-- The instruction the decoder reads from an instruction whose bits are `w` (log entry 5). -/
def decodeTableWord (nbits w : Nat) : Option Instr :=
  let f := tableFrame nbits w
  (decode (tableFormat f) f).toOption

end Sys2Proof
end

