-- ==== Sys2Proof/Machine/Defaults.lean ====
section
/-! DEFINITION. The default parameter record: the conventions of 95_test_vectors.md over the defaults that 00_scope.md rule
R6 and 10_state.md section 14 offer "so that a model can run". Every chip number here is, in the spec's own words,
[from general knowledge, not in source]: no statement rests on it (log entries 6 and 7). PRESUMED; UNVERIFIED. -/

namespace Sys2Proof.Machine

/-- The default `REGMAP` (R35 to R39) and mode values (R82). UNVERIFIED. -/
def defaultRegMap : RegMap where
  opmode := 0x01
  frfMsb := 0x06
  frfMid := 0x07
  frfLsb := 0x08
  paConfig := 0x09
  lna := 0x0C
  dioMapping1 := 0x40
  dioMapping2 := 0x41
  paDac := 0x5A
  opmodeModeMask := 0xF8
  opmodeLrm := 0x80
  modeSleep := 0
  modeStandby := 1
  modeTransmitter := 3
  modeReceiver := 5
  modeReceiverSingle := 6
  modeCad := 7
  paSelect := 0x80
  paSelectMask := 0x7F
  paPowerMask := 0xF0
  paDac20dBmMask := 0xF8
  paDac20dBmOn := 0x07
  paDac20dBmOff := 0x04
  rxConfig := 0x0D
  rxConfigRestartNoPll := 0x40
  rssiValue := 0x11
  afcMsb := 0x1B
  afcLsb := 0x1C
  syncConfig := 0x27
  syncSizeMask := 0xF8
  packetConfig1 := 0x30
  addrsFilteringMask := 0xF9
  packetConfig2 := 0x31
  dataModeMask := 0xBF
  payloadLength := 0x32
  fifoThresh := 0x35
  fifoThreshMask := 0x3F
  irqFlags1 := 0x3E
  irq1Rssi := 0x08
  irq1PreambleDetect := 0x02
  irq1SyncAddressMatch := 0x01
  irqFlags2 := 0x3F
  irq2CrcOk := 0x02
  irq2FifoOverrun := 0x10
  lrFifoAddrPtr := 0x0D
  lrFifoTxBaseAddr := 0x0E
  lrFifoRxBaseAddr := 0x0F
  lrFifoRxCurrentAddr := 0x10
  lrIrqFlagsMask := 0x11
  lrIrqFlags := 0x12
  lrRxTimeout := 0x80
  lrRxDone := 0x40
  lrPayloadCrcError := 0x20
  lrValidHeader := 0x10
  lrTxDone := 0x08
  lrCadDone := 0x04
  lrFhssChangedChannel := 0x02
  lrCadDetected := 0x01
  lrRxNbBytes := 0x13
  lrPktSnrValue := 0x19
  lrPktRssiValue := 0x1A
  lrRssiValue := 0x1B
  lrHopChannel := 0x1C
  hopChannelMask := 0x3F
  lrPayloadLength := 0x22
  lrPayloadMaxLength := 0x23
  lrRssiWideband := 0x2C
  lrSyncWord := 0x39

/-- The default `CHIPSEQ` over a register map (R99, R100, R102, R228). `INIT_REGS`, `RXCFG` and `TXCFG` have no default;
95_test_vectors.md takes them empty (log entry 8). UNVERIFIED. -/
def defaultChipSeq (r : RegMap) : ChipSeq where
  initRegs := []
  diomapFsk := [.w r.dioMapping1 0x00, .w r.dioMapping2 0x30]
  diomapLora := [.w r.dioMapping1 0x00, .w r.dioMapping2 0x00]
  txMapFsk := [.m r.dioMapping1 0x03 0x10, .m r.dioMapping2 0x3E 0x00]
  txMapLoraHop := [.w r.lrIrqFlagsMask 0xF5, .m r.dioMapping1 0x33 0x40]
  txMapLoraNoHop := [.w r.lrIrqFlagsMask 0xF7, .m r.dioMapping1 0x3F 0x40]
  rxMapFsk := [.m r.dioMapping1 0x03 0x08, .m r.dioMapping2 0x3E 0xC1, .w r.rxConfig 0x1E]
  rxMapLoraHopCont :=
    [.w r.lrIrqFlagsMask 0x1D, .m r.dioMapping1 0x33 0x00, .w r.lrFifoRxBaseAddr 0x00, .w r.lrFifoAddrPtr 0x00]
  rxMapLoraHopSingle :=
    [.w r.lrIrqFlagsMask 0x1D, .m r.dioMapping1 0x33 0x00, .w r.lrFifoRxBaseAddr 0x00, .w r.lrFifoAddrPtr 0x00]
  rxMapLoraNoHopCont :=
    [.w r.lrIrqFlagsMask 0x1F, .m r.dioMapping1 0x3F 0x00, .w r.lrFifoRxBaseAddr 0x00, .w r.lrFifoAddrPtr 0x00]
  rxMapLoraNoHopSingle :=
    [.w r.lrIrqFlagsMask 0x1F, .m r.dioMapping1 0x3F 0x00, .w r.lrFifoRxBaseAddr 0x00, .w r.lrFifoAddrPtr 0x00]
  cadMap := [.w r.lrIrqFlagsMask 0xFA, .m r.dioMapping1 0xFC 0x00]
  fskRxAbortClear :=
    [.w r.irqFlags1 (r.irq1Rssi ||| r.irq1PreambleDetect ||| r.irq1SyncAddressMatch), .w r.irqFlags2 r.irq2FifoOverrun]
  cwMap := [.m r.packetConfig2 r.dataModeMask 0x00, .w r.dioMapping1 0xF0, .w r.dioMapping2 0xA0]
  rxcfg := .steps []
  txcfg := .steps []
  channelWrites := .formula

/-- The default `FSK_BW_TABLE` (R121); only the breakpoint 125000 is in the source. UNVERIFIED. -/
def defaultBwTable : List BwEntry :=
  [⟨2600, 0x17⟩, ⟨3100, 0x0F⟩, ⟨3900, 0x07⟩, ⟨5200, 0x16⟩, ⟨6300, 0x0E⟩, ⟨7800, 0x06⟩, ⟨10400, 0x15⟩,
   ⟨12500, 0x0D⟩, ⟨15600, 0x05⟩, ⟨20800, 0x14⟩, ⟨25000, 0x0C⟩, ⟨31300, 0x04⟩, ⟨41700, 0x13⟩, ⟨50000, 0x0B⟩,
   ⟨62500, 0x03⟩, ⟨83333, 0x12⟩, ⟨100000, 0x0A⟩, ⟨125000, 0x02⟩, ⟨166700, 0x11⟩, ⟨200000, 0x09⟩, ⟨250000, 0x01⟩,
   ⟨300000, 0x00⟩]

/-- The levels of R144's table. UNVERIFIED. -/
def defaultLevels : SwitchLevels where
  aTxBoost := (true, false)
  aTxRfo := (false, true)
  aRx := (true, true)
  aOther := (false, false)
  aLow := (false, false)
  bTx := (true, false)
  bRx := (false, true)
  bOther := (false, false)
  bLow := (false, false)
  cTx := true
  cRx := false
  cOther := false
  cLow := false

/-- Every pin `NC`: the `WIRING` of the conventions of 95_test_vectors.md. -/
def wiringNone : Wiring := ⟨false, false, false, false, false, false, false, defaultLevels⟩

/-- The default parameter record (R6; 95_test_vectors.md, Conventions). `PA_SELECT` has no default anywhere: `Rfo` is a
DESIGN CHOICE (log entry 6). -/
def defaultConfig : Config where
  maxDataBufferSize := 255
  fifoBurst := 32
  fskSingleWriteMax := 64
  resetLowMs := 2
  resetWaitMs := 6
  pollMs := 1
  wakeMs := 1
  workerPresent := true
  wiring := wiringNone
  paSelect := .rfo
  regmap := defaultRegMap
  chipSeq := defaultChipSeq defaultRegMap
  fskBwTable := defaultBwTable
  rssiOffset := -139
  snrWidth := .w8
  syncwordPublic := 0x34
  syncwordPrivate := 0x12
  cwDurationUnitMs := 1000

end Sys2Proof.Machine
end

