-- ==== Sys2Proof/Machine/State.lean ====
section
/-! DEFINITION. The state of RSM (10_state.md), plain data: every piece of state the spec names, then the model's own fields
(the parameter record, the environment's script, the event history). -/

namespace Sys2Proof.Machine

/-- `S.fsk`, the FSK configuration: the 15 fields of R16. `power` is an `i8`. -/
structure FskConfig where
  power : Byte
  freqDev : Word
  bandwidth : Word
  bandwidthAfc : Word
  datarate : Word
  preambleLen : Half
  fixLen : Bool
  payloadLen : Byte
  crcOn : Bool
  freqHopOn : Bool
  hopPeriod : Byte
  iqInverted : Bool
  rxContinuous : Bool
  txTimeout : Word
  rxSingleTimeout : Word
  deriving DecidableEq, Repr

/-- `S.lora`, the LoRa configuration: the 16 fields of R17. `power` is an `i8`. -/
structure LoraConfig where
  power : Byte
  bandwidth : Word
  datarate : Word
  coderate : Byte
  lowDatarateOptimize : Bool
  preambleLen : Half
  fixLen : Bool
  payloadLen : Byte
  crcOn : Bool
  freqHopOn : Bool
  hopPeriod : Byte
  iqInverted : Bool
  rxContinuous : Bool
  symbolTimeout : Half
  txTimeout : Word
  publicNetwork : Bool
  deriving DecidableEq, Repr

/-- `S.fsk_ph`, the FSK packet handler: the 9 fields of R18. `rssiValue` and `afcValue` are `i16`. -/
structure FskPacket where
  preambleDetected : Bool
  syncWordDetected : Bool
  rssiValue : Half
  afcValue : Half
  rxGain : Byte
  size : Half
  nbBytes : Half
  fifoThresh : Byte
  chunkSize : Byte
  deriving DecidableEq, Repr

/-- `S.lora_ph`, the LoRa packet handler: the 3 fields of R19. `snrValue` is an `i8`, `rssiValue` an `i16`. -/
structure LoraPacket where
  snrValue : Byte
  rssiValue : Half
  size : Byte
  deriving DecidableEq, Repr

/-- `RadioSettings` (R15) as `RXCFG` and `TXCFG` see it (R101). -/
structure RadioSettings where
  channel : Word
  modem : ModemKind
  state : RadioState
  fsk : FskConfig
  lora : LoraConfig
  fskPh : FskPacket
  loraPh : LoraPacket
  deriving DecidableEq, Repr

/-- `S.worker` (R26). -/
inductive Worker where
  | waiting
  | holding (batch : EventVec)
  deriving DecidableEq, Repr

/-- `S.timer` (R28). -/
inductive Timer where
  | disarmed
  | armed (ms : Word)
  deriving DecidableEq, Repr

/-- `S.rst` (R30). -/
inductive ResetPin where
  | released | drivenLow
  deriving DecidableEq, Repr

/-- `S.gpio`: the level last driven on each of the seven pins (R29). An `NC` pin has no latch; its entry keeps its reset
value and is read by nothing (log entry 13). -/
structure Gpio where
  rfSwitchCtl1 : Bool
  rfSwitchCtl2 : Bool
  txctl : Bool
  rxctl : Bool
  antSwitch : Bool
  pwrAmpCtl : Bool
  tcxo : Bool
  deriving DecidableEq, Repr

/-- `S.data_buf` (R24, R53): the bytes that are not zero, in the canonical form of `Memory.wf`. -/
abbrev Memory := List Host.Cell

/-- What a byte of the data buffer that no entry lists reads as: the spec's reset value, 0 (R24, R44). -/
def Memory.unlisted : Byte := 0

/-- One entry of the event history (R34): what the block did at a port. The model's own (log entry 11). -/
inductive Event where
  | busRead (addr : Addr) (bytes : List Byte)
  | busWrite (addr : Addr) (bytes : List Byte)
  | gpioSet (pin : Pin) (level : Bool)
  | rstLow
  | rstRelease
  | timerStart (ms : Word)
  | timerCancel
  | wait (ms : Nat)
  | callback (message : List Byte)
  | response (message : List Byte)
  deriving DecidableEq, Repr

/-- One scheduled step of an agent (R10), the script actions of R96, and the block's own call of a bus primitive or a
micro-operation on its own (`bus`, `micro`: the model's, log entries 2 and 4). `edge line` is a rising edge on `DIO[line]`;
a line above 5 does not exist. `dispatchExpiring` is the direct model's dispatch step with the timer's expiry falling
between its take and its handlers, which no order of whole steps gives (R8, R247, R250; log entry 14). -/
inductive Stimulus where
  | frame (bytes : List Byte)
  | edge (line : Fin 6)
  | expire
  | wake
  | run
  | dispatch
  | dispatchExpiring
  | bus (bytes : List Byte)
  | micro (bytes : List Byte)
  deriving DecidableEq, Repr

/-- What a bus primitive or a micro-operation run on its own returned to its caller. The model's own (log entry 12). -/
inductive Returned where
  | nothing
  | bytes (l : List Byte)
  | code (c : Byte)
  | invalidBandwidth (bw : Word)
  | txPower (p : Int) (boost20 : Bool) (field : BitVec 4)
  | ms (n : Nat)
  | noResult
  deriving DecidableEq, Repr

/-- Why the machine stops. -/
inductive Fault where
  /-- Raised by a move of packet bytes whose place in the data buffer does not exist: the precondition
  `i + n <= MAX_DATA_BUFFER_SIZE` of `MemRead` and `MemWrite` (R7), or `nb_bytes <= size` (R21), is broken. The rules make
  this unreachable (R53, R254); only states that no run reaches raise it. Safe (log entry 15). -/
  | bufferBounds
  deriving DecidableEq, Repr

/-- Why an instruction has no meaning here. -/
inductive Refusal where
  /-- Raised by `exec` for an instruction that has no meaning yet; every instruction has one. Safe. -/
  | notModelled (mnemonic : String)
  /-- Raised by `step` for a byte string on the model's own internal-call input that names no bus primitive and no
  micro-operation. The spec has no such input. Safe (log entry 4). -/
  | noSuchCall
  deriving DecidableEq, Repr

/-- The state of the block. -/
structure State where
  /-- The parameter record (R6); no step changes it (R32, R45; log entry 6). -/
  cfg : Config
  /-- `S.state` (R13). -/
  state : RadioState
  /-- `S.modem` (R14). -/
  modem : ModemKind
  /-- `S.channel`, Hz (R15). -/
  channel : Word
  /-- `S.fsk` (R16). -/
  fsk : FskConfig
  /-- `S.lora` (R17). -/
  lora : LoraConfig
  /-- `S.fsk_ph` (R18). -/
  fskPh : FskPacket
  /-- `S.lora_ph` (R19). -/
  loraPh : LoraPacket
  /-- `S.data_buf` (R24). -/
  dataBuf : Memory
  /-- `S.pending` (R25). -/
  pending : EventVec
  /-- `S.worker` (R26). -/
  worker : Worker
  /-- `S.lock` (R27). -/
  lock : Byte
  /-- `S.timer` (R28). -/
  timer : Timer
  /-- `S.gpio` (R29). -/
  gpio : Gpio
  /-- `S.rst` (R30). -/
  rst : ResetPin
  /-- `S.irq_armed` (R31). -/
  irqArmed : Bool
  /-- `S.cb_set` (R33). -/
  cbSet : EventVec
  /-- The model's own: the steps of the agents still to come, first one next (R10; log entry 2). -/
  inputs : List Stimulus
  /-- The model's own: the bytes the chip will answer, first one next; past its end the answers are free (log entry 1). -/
  answers : List Byte
  /-- The model's own: how many bytes the chip has answered (log entry 1). -/
  reads : Nat
  /-- The model's own: the draws of R227 to come; past its end they are free (log entry 9). -/
  draws : List Nat
  /-- The model's own: how many draws were taken (log entry 9). -/
  drawn : Nat
  /-- The model's own: the event history, oldest first (R34; log entry 11). -/
  hist : List Event
  /-- The model's own: what the last operation run on its own returned (log entry 12). -/
  ret : Returned
  deriving DecidableEq, Repr

/-- FREE VALUE (log entry 8): the k-th uninterpreted `RXCFG` or `TXCFG` (R101), a function of the modem and the
just-updated settings. -/
opaque configWritesFree : Nat → ModemKind → RadioSettings → List SeqStep

/-- The block after its power-on reset (R44, R281) under a parameter record: every field of the spec at the value R44
gives; nothing scripted, nothing recorded. -/
def State.resetWith (c : Config) : State where
  cfg := c
  state := .idle
  modem := .fsk
  channel := 0
  fsk := ⟨0, 0, 0, 0, 0, 0, false, 0, false, false, 0, false, false, 0, 0⟩
  lora := ⟨0, 0, 0, 0, false, 0, false, 0, false, false, 0, false, false, 0, 0, false⟩
  fskPh := ⟨false, false, 0, 0, 0, 0, 0, 0, 0⟩
  loraPh := ⟨0, 0, 0⟩
  dataBuf := []
  pending := 0
  worker := .waiting
  lock := 0
  timer := .disarmed
  gpio := ⟨false, false, false, false, false, false, true⟩
  rst := .released
  irqArmed := false
  cbSet := 0
  inputs := []
  answers := []
  reads := 0
  draws := []
  drawn := 0
  hist := []
  ret := .nothing

/-- The machine right after reset (R44), under the default parameter record (log entry 6). -/
def State.reset : State := State.resetWith defaultConfig

end Sys2Proof.Machine
end

