-- ==== Sys2Proof/Machine/Flags.lean ====
section
/-! DEFINITION. The flags of RSM (R42): chip flag tests, the packet flags of the FSK handler, the pending register's bits and
the callback set. -/

namespace Sys2Proof.Machine

/-- `(v & mask) != 0`: the test the rules make on a chip flag register. -/
def flagSet (v mask : Byte) : Bool := v &&& mask != 0

/-- `S.pending[i] <- 1`; setting a bit that is already 1 changes nothing (R25). -/
def setPending (i : Nat) (s : State) : State := { s with pending := s.pending ||| BitVec.ofNat 7 (2 ^ i) }

/-- `ClearFskPacketState()` (R181): the two detect flags, the byte count and the size; nothing else. -/
def clearFskPacketState (s : State) : State :=
  { s with fskPh := { s.fskPh with preambleDetected := false, syncWordDetected := false, nbBytes := 0, size := 0 } }

/-- The DIO4 latch (R198): set-once. -/
def latchPreamble (s : State) : State := { s with fskPh := { s.fskPh with preambleDetected := true } }

/-- `Ldro(bandwidth, datarate)` (R216) over `bw = LoraBwHz(bandwidth)`, `none` where the bandwidth has no mapping. -/
def ldro (bw : Option Nat) (datarate : Nat) : Bool :=
  match bw with
  | some b => (b == 125000 && (datarate == 11 || datarate == 12)) || (b == 250000 && datarate == 12)
  | none => false

end Sys2Proof.Machine
end

