-- ==== Sys2Proof/Machine/Operands.lean ====
section
/-! DEFINITION. The operand forms of RSM: how a byte, a mode, a modem or a stored field is read as the number or the class a
rule works on (00_scope.md rule R7), and how a mathematical integer is narrowed into a field (R130). -/

namespace Sys2Proof.Machine

/-- `REG_FIFO` = 0, the one address in the source (R59). -/
def regFifo : Addr := 0

/-- The mode field value of an operating mode (R82, a part of `REGMAP` by D35). -/
def modeValue (r : RegMap) : OpMode → Byte
  | .sleep => r.modeSleep
  | .standby => r.modeStandby
  | .transmitter => r.modeTransmitter
  | .receiver => r.modeReceiver
  | .receiverSingle => r.modeReceiverSingle
  | .cad => r.modeCad

/-- The three classes of R82: "TX vs RX/CAD vs other". -/
inductive ModeClass where
  | tx | rx | other
  deriving DecidableEq, Repr

/-- The class of a mode (R82, R143). -/
def modeClass : OpMode → ModeClass
  | .transmitter => .tx
  | .receiver => .rx
  | .receiverSingle => .rx
  | .cad => .rx
  | .sleep => .other
  | .standby => .other

/-- The antenna-switch schemes of R142. -/
inductive Scheme where
  | a | b | c | none
  deriving DecidableEq, Repr

/-- `Scheme(WIRING)` (R142): A, then B, then C, then None; a scheme with one of its two pins missing counts as absent. -/
def scheme (w : Wiring) : Scheme :=
  if w.rfSwitchCtl1 && w.rfSwitchCtl2 then .a
  else if w.txctl && w.rxctl then .b
  else if w.antSwitch then .c
  else .none

/-- The level of one pin (R29). -/
def gpioGet (g : Gpio) : Pin → Bool
  | .rfSwitchCtl1 => g.rfSwitchCtl1
  | .rfSwitchCtl2 => g.rfSwitchCtl2
  | .txctl => g.txctl
  | .rxctl => g.rxctl
  | .antSwitch => g.antSwitch
  | .pwrAmpCtl => g.pwrAmpCtl
  | .tcxo => g.tcxo

/-- The seven levels with one replaced (R29). -/
def gpioPut (g : Gpio) (p : Pin) (level : Bool) : Gpio :=
  match p with
  | .rfSwitchCtl1 => { g with rfSwitchCtl1 := level }
  | .rfSwitchCtl2 => { g with rfSwitchCtl2 := level }
  | .txctl => { g with txctl := level }
  | .rxctl => { g with rxctl := level }
  | .antSwitch => { g with antSwitch := level }
  | .pwrAmpCtl => { g with pwrAmpCtl := level }
  | .tcxo => { g with tcxo := level }

/-- The modem the chip's long-range-mode bit says (R146: "authoritative over cached value"). -/
def modemOfOpmode (r : RegMap) (v : Byte) : ModemKind := if flagSet v r.opmodeLrm then .lora else .fsk

/-- `LoraBwHz(b)` (R129): Hz as given, or the index form 0, 1, 2; every other value has no mapping. -/
def loraBwHz (b : Nat) : Option Nat :=
  if b = 125000 ∨ b = 0 then some 125000
  else if b = 250000 ∨ b = 1 then some 250000
  else if b = 500000 ∨ b = 2 then some 500000
  else none

/-- `Snr(v)` (R187): sign extension from `SNR_WIDTH` bits, then division by 4 truncated toward zero. -/
def snrOf (w : SnrWidth) (v : Byte) : Int :=
  match w with
  | .w8 => v.toInt.tdiv 4
  | .w4 => (v.setWidth 4).toInt.tdiv 4

/-- `LoraRssi(raw, snr)` (R188): the offset plus the register, plus the SNR when it is negative. -/
def loraRssi (offset : Int) (raw : Byte) (snr : Int) : Int := offset + raw.toNat + (if snr < 0 then snr else 0)

/-- The FSK RSSI of R190 and R227: `-(raw >> 1)`, in dBm. -/
def fskRssi (raw : Byte) : Int := -((raw.toNat / 2 : Nat) : Int)

/-- An RSSI narrowed to `i16` (R130). Outside the range no rule states a value: a free one (log entry 10). -/
def rssiField (x : Int) : Half :=
  if -32768 ≤ x ∧ x ≤ 32767 then BitVec.ofInt 16 x else Config.rssiUnstated x

/-- The continuous-wave timeout `duration * CW_DURATION_UNIT_MS` as the `u32` of the timer (R228). At 2^32 or more no rule
states a value: a free one (log entry 10). -/
def cwTimeout (unit : Nat) (duration : Half) : Word :=
  if duration.toNat * unit < 2 ^ 32 then BitVec.ofNat 32 (duration.toNat * unit)
  else Config.cwTimeoutUnstated (duration.toNat * unit)

/-- The first chunk of an FSK body (R161): nothing, the whole body in one write, or a 32-byte burst of a longer one. -/
def firstChunk (c : Config) (size : Nat) : Nat :=
  if size = 0 then 0 else if size ≤ c.fskSingleWriteMax then size else c.fifoBurst

/-- A chunk size narrowed to `u8` (R130). Above 255 no rule states a value: a free one (log entry 10). -/
def chunkField (n : Nat) : Byte := if n < 256 then BitVec.ofNat 8 n else Config.chunkUnstated n

/-- A count of bytes moved narrowed to `u16` (R130). At 65536 or more no rule states a value: a free one (log entry 10). -/
def nbBytesField (n : Nat) : Half := if n < 65536 then BitVec.ofNat 16 n else Config.nbBytesUnstated n

/-- The most polls `PERFORM_CARRIER_SENSE` makes, `max_duration_ms div POLL_MS` (R227). Under `POLL_MS` = 0 no rule states a
bound: a free one (log entry 9). -/
def pollBound (pollMs : Nat) (maxDurationMs : Word) : Nat :=
  if pollMs = 0 then Config.pollBoundUnstated maxDurationMs else maxDurationMs.toNat / pollMs

/-- `RxSingleTimeout(symbol_timeout, datarate)` (R215). -/
def rxSingleTimeout (symbolTimeout : Half) (datarate : Word) : Word :=
  if datarate = 0 then 0 else BitVec.ofNat 32 (symbolTimeout.toNat * 8000 / datarate.toNat)

/-- `Ldro` of the stored LoRa operands (R216). -/
def ldroOf (bandwidth datarate : Word) : Bool := ldro (loraBwHz bandwidth.toNat) datarate.toNat

/-- `DIOMAP_DEFAULT[kind]` (R99). -/
def diomapDefault (c : ChipSeq) : ModemKind → List SeqStep
  | .fsk => c.diomapFsk
  | .lora => c.diomapLora

/-- `TX_MAP[modem, hop]` (R100). -/
def txMap (c : ChipSeq) (m : ModemKind) (hop : Bool) : List SeqStep :=
  match m with
  | .fsk => c.txMapFsk
  | .lora => if hop then c.txMapLoraHop else c.txMapLoraNoHop

/-- `RX_MAP[LoRa, hop, continuous]` (R100). -/
def rxMapLora (c : ChipSeq) (hop continuous : Bool) : List SeqStep :=
  if hop then (if continuous then c.rxMapLoraHopCont else c.rxMapLoraHopSingle)
  else if continuous then c.rxMapLoraNoHopCont else c.rxMapLoraNoHopSingle

/-- The default `CHANNEL_WRITES(freq_hz)` (R102): `f = (freq_hz * 256) div 15625`, its low 24 bits in three writes, most
significant byte at the lowest address (R55, R212). -/
def channelFormula (r : RegMap) (freqHz : Word) : List SeqStep :=
  let f := freqHz.toNat * 256 / 15625
  [.w r.frfMsb (BitVec.ofNat 8 (f / 65536)), .w r.frfMid (BitVec.ofNat 8 (f / 256)), .w r.frfLsb (BitVec.ofNat 8 f)]

/-- `CHANNEL_WRITES(freq_hz)` (R102). -/
def channelWrites (c : Config) (freqHz : Word) : List SeqStep :=
  match c.chipSeq.channelWrites with
  | .formula => channelFormula c.regmap freqHz
  | .free k => Config.channelWritesFree k freqHz

/-- `RadioSettings` (R15) as a function argument of `RXCFG` and `TXCFG` (R101). -/
def settingsOf (s : State) : RadioSettings where
  channel := s.channel
  modem := s.modem
  state := s.state
  fsk := s.fsk
  lora := s.lora
  fskPh := s.fskPh
  loraPh := s.loraPh

/-- `RXCFG(modem, S)`, or what `TXCFG(modem, S)` is taken from (R101). -/
def configWrites (src : ConfigSource) (m : ModemKind) (s : State) : List SeqStep :=
  match src with
  | .steps l => l
  | .free k => configWritesFree k m (settingsOf s)

/-- `TXCFG(modem, S)` (R101): "`TXCFG` excludes the PA registers, which `SET_RF_TX_POWER` writes", so a step at one of them is
no part of it (log entry 8). -/
def txConfigWrites (m : ModemKind) (s : State) : List SeqStep :=
  (configWrites s.cfg.chipSeq.txcfg m s).filter
    (fun x => decide (x.addr ≠ s.cfg.regmap.paConfig ∧ x.addr ≠ s.cfg.regmap.paDac))

end Sys2Proof.Machine
end

