-- ==== Sys2Proof/Machine/Ops.lean ====
section
/-! DEFINITION. The shared operations: the data buffer, the bus primitives of the RAL, pins, timer, waits, callbacks and
responses, raising an error, latching an event and entering a batch (the block's exceptions, 60_exceptions.md). Each takes
the state last. -/

namespace Sys2Proof.Machine

/-! ### The data buffer (R24, R53) -/

/-- One byte of the buffer. -/
def Memory.read : Memory → Nat → Byte
  | [], _ => Memory.unlisted
  | (b, w) :: m, a => if a = b then w else Memory.read m a

/-- One byte written, keeping the canonical form: rising addresses, no entry that equals `Memory.unlisted`. -/
def Memory.write : Memory → Nat → Byte → Memory
  | [], a, v => if v = Memory.unlisted then [] else [(a, v)]
  | (b, w) :: m, a, v =>
    if a < b then (if v = Memory.unlisted then (b, w) :: m else (a, v) :: (b, w) :: m)
    else if a = b then (if v = Memory.unlisted then m else (a, v) :: m)
    else (b, w) :: Memory.write m a v

/-- The canonical form above an address: strictly rising, each entry at `lo` or above and not `Memory.unlisted`. -/
def Memory.wfFrom : Nat → Memory → Bool
  | _, [] => true
  | lo, (b, w) :: m => decide (lo ≤ b) && w != Memory.unlisted && Memory.wfFrom (b + 1) m

/-- The canonical form of the buffer. -/
def Memory.wf (m : Memory) : Bool := Memory.wfFrom 0 m

/-- Every listed address lies below a bound. -/
def Memory.below (bound : Nat) (m : Memory) : Bool := m.all (fun c => decide (c.1 < bound))

/-- `n` bytes from address `a` on. -/
def Memory.readList (m : Memory) (a : Nat) : Nat → List Byte
  | 0 => []
  | n + 1 => Memory.read m a :: Memory.readList m (a + 1) n

/-- A run of bytes written from address `a` on. -/
def Memory.writeList (m : Memory) (a : Nat) : List Byte → Memory
  | [] => m
  | v :: vs => Memory.writeList (Memory.write m a v) (a + 1) vs

/-- `MemRead(i, n)` (R7, R53). -/
def memRead (i n : Nat) (s : State) : List Byte := Memory.readList s.dataBuf i n

/-- `MemWrite(i, n, v)` with `n` the length of `v` (R7, R53). -/
def memWrite (i : Nat) (v : List Byte) (s : State) : State := { s with dataBuf := Memory.writeList s.dataBuf i v }

/-- `MemWrite(0, MAX_DATA_BUFFER_SIZE, [0, ..., 0])` (R166): no byte below the bound stays listed. -/
def zeroBuffer (s : State) : State :=
  { s with dataBuf := s.dataBuf.filter (fun c => decide (s.cfg.maxDataBufferSize ≤ c.1)) }

/-! ### The bus (R9, R34, R57, R110 to R116) -/

/-- Appends to the event history (R34). -/
def record (e : Event) (s : State) : State := { s with hist := s.hist ++ [e] }

/-- The `k`-th byte the chip will answer from here on: scripted, or free (R9; log entry 1). -/
def answer (s : State) (k : Nat) : Byte := s.answers.getD k (Config.chipByte (s.reads + k))

/-- The next `n` bytes the chip will answer. -/
def answered (s : State) (n : Nat) : List Byte := (List.range n).map (answer s)

/-- One read transaction of `n` bytes at an address: the chip's answers are consumed and recorded. -/
def busRead (addr : Addr) (n : Nat) (s : State) : List Byte × State :=
  (answered s n,
   { s with answers := s.answers.drop n, reads := s.reads + n, hist := s.hist ++ [.busRead addr (answered s n)] })

/-- One write transaction at an address. -/
def busWrite (addr : Addr) (bytes : List Byte) (s : State) : State := record (.busWrite addr bytes) s

/-- `RegWrite(addr, v)` (R111). -/
def regWrite (addr : Addr) (v : Byte) (s : State) : State := busWrite addr [v] s

/-- `RegWriteBurst(addr, bytes)` (R112): no bytes, no transaction. -/
def regWriteBurst (addr : Addr) (bytes : List Byte) (s : State) : State :=
  if bytes.length = 0 then s else busWrite addr bytes s

/-- `RegRead(addr)` (R113). -/
def regRead (addr : Addr) (s : State) : Byte × State := (answer s 0, (busRead addr 1 s).2)

/-- `RegReadBurst(addr, n)` (R114): no bytes, no transaction. -/
def regReadBurst (addr : Addr) (n : Nat) (s : State) : List Byte × State :=
  if n = 0 then ([], s) else busRead addr n s

/-- `FifoWrite(bytes)` (R115, R97). -/
def fifoWrite (bytes : List Byte) (s : State) : State := regWriteBurst regFifo bytes s

/-- `FifoRead(n)` (R116, R97). -/
def fifoRead (n : Nat) (s : State) : List Byte × State := regReadBurst regFifo n s

/-- `RegSet(addr, and, or)` (R7): one read, then one write. -/
def regSet (addr : Addr) (andMask orMask : Byte) (s : State) : State :=
  regWrite addr (((regRead addr s).1 &&& andMask) ||| orMask) (regRead addr s).2

/-- One step of a chip write sequence (R98). -/
def applyStep (s : State) : SeqStep → State
  | .w addr v => regWrite addr v s
  | .m addr andMask orMask => regSet addr andMask orMask s

/-- `Apply(seq)` (R98). -/
def applySeq (seq : List SeqStep) (s : State) : State := seq.foldl applyStep s

/-! ### Pins, timer, waits (R7, R28 to R30, R260) -/

/-- `GpioSet(pin, level)`: no effect on a pin that is `NC` (R7, R29). -/
def gpioSet (p : Pin) (level : Bool) (s : State) : State :=
  if s.cfg.wiring.connected p then { record (.gpioSet p level) s with gpio := gpioPut s.gpio p level } else s

/-- Several pins driven in order. -/
def gpioSetAll (l : List (Pin × Bool)) (s : State) : State := l.foldl (fun s x => gpioSet x.1 x.2 s) s

/-- `TimerStart(ms)` (R28, R260): replaces any earlier arming. -/
def timerStart (ms : Word) (s : State) : State := { record (.timerStart ms) s with timer := .armed ms }

/-- `TimerCancel()` (R28, R260, R262): disarms; a latched bit 6 stays. -/
def timerCancel (s : State) : State := { record .timerCancel s with timer := .disarmed }

/-- `Wait(ms)`: a lower bound, a marker in the history (R7, R296). -/
def wait (ms : Nat) (s : State) : State := record (.wait ms) s

/-- `GoIdle()` (R153): `TimerCancel(); S.state <- Idle`. -/
def goIdle (s : State) : State := { timerCancel s with state := .idle }

/-! ### Responses and errors (R89, R241, R255) -/

/-- The status codes of R89. -/
inductive Status where
  | ok | invalidBandwidth | refused
  deriving DecidableEq, Repr

/-- The status byte (R89). -/
def statusByte : Status → Byte
  | .ok => 0x00
  | .invalidBandwidth => 0x01
  | .refused => 0x02

/-- `return (Ok, result)`: the status byte and the result bytes on `RSP` (R89, R232). -/
def respond (result : List Byte) (s : State) : State := record (.response (statusByte .ok :: result)) s

/-- `raise E` (R255), the block's synchronous exception: the response is the one status byte, nothing else happens. -/
def raiseError (e : Status) (s : State) : State := record (.response [statusByte e]) s

/-- What an operation run on its own hands to its caller (log entry 12). -/
def returns (r : Returned) (s : State) : State := { s with ret := r }

/-! ### Callbacks (R84, R90, R258) -/

/-- The seven callbacks with their arguments (R84, R90). -/
inductive Callback where
  | txDone
  | txTimeout
  | rxDone (size : Half) (rssi : Half) (snr : Byte) (payload : List Byte)
  | rxTimeout
  | rxError
  | fhssChangeChannel (channel : Byte)
  | cadDone (detected : Bool)
  deriving DecidableEq, Repr

/-- The callback's number (R84). -/
def callbackNumber : Callback → Nat
  | .txDone => 0
  | .txTimeout => 1
  | .rxDone _ _ _ _ => 2
  | .rxTimeout => 3
  | .rxError => 4
  | .fhssChangeChannel _ => 5
  | .cadDone _ => 6

/-- The message on `CB`: the number, then the arguments, multi-byte ones little-endian (R90). -/
def callbackMessage (c : Callback) : List Byte :=
  BitVec.ofNat 8 (callbackNumber c) ::
    match c with
    | .txDone => []
    | .txTimeout => []
    | .rxDone size rssi snr payload => le16 size ++ le16 rssi ++ [snr] ++ payload
    | .rxTimeout => []
    | .rxError => []
    | .fhssChangeChannel channel => [channel]
    | .cadDone detected => [boolByte detected]

/-- `emit cb(args)` (R258): the message if the host supplied the callback, nothing otherwise. -/
def emit (c : Callback) (s : State) : State :=
  if s.cbSet.getLsbD (callbackNumber c) then record (.callback (callbackMessage c)) s else s

/-! ### Taking an event (R244 to R247, R250, R253, R254)

Entering a batch saves nothing, changes no mode and no program counter, and there is no return operation (R253, R254): what
the worker takes and what it gives back is `S.pending` and `S.worker`. The handlers themselves run in Machine/Batch.lean. -/

/-- The edge latch's step (R246): a rising edge on `DIO[line]` is lost while `S.irq_armed = 0`. -/
def latchEdge (line : Fin 6) (s : State) : State := if s.irqArmed then setPending line.val s else s

/-- The timer's expiry step (R247): enabled while the timer is armed, whatever `S.irq_armed` is. -/
def expire (s : State) : State :=
  match s.timer with
  | .armed _ => { setPending 6 s with timer := .disarmed }
  | .disarmed => s

/-- Whether the worker's take step is enabled (R243, R244). -/
def wakeEnabled (s : State) : Bool := s.cfg.workerPresent && s.worker == .waiting && s.pending != 0

/-- The worker's take step (R244): read and clear the pending register, hold the batch. -/
def wake (s : State) : State :=
  if wakeEnabled s then { s with pending := 0, worker := .holding s.pending } else s

/-- The batch the worker's batch step would run, where the step is enabled (R245): it holds one, and `S.lock = 0`. -/
def heldBatch (s : State) : Option EventVec :=
  match s.worker with
  | .holding b => if s.cfg.workerPresent && s.lock == 0 then some b else none
  | .waiting => none

/-- The batch the dispatch step of the direct model would run, where the step is enabled (R250). -/
def directBatch (s : State) : Option EventVec :=
  if !s.cfg.workerPresent && s.lock == 0 && s.pending != 0 then some s.pending else none

/-- Trap return (R245, R254): the worker waits again. -/
def endBatch (s : State) : State := { s with worker := .waiting }

/-! ### Outcomes -/

/-- The outcome of a meaning. -/
abbrev Result := Host.Outcome State Fault Refusal

/-- One meaning after another; the first stop is the outcome. -/
def andThen (o : Result) (f : State → Result) : Result :=
  match o with
  | .next s => f s
  | .fault r => .fault r
  | .refused r => .refused r

/-- The `n` bytes at offset `i` of the buffer exist: `i + n <= MAX_DATA_BUFFER_SIZE`, the precondition of `MemRead` and
`MemWrite` (R7). -/
def inBuffer (i n : Nat) (s : State) : Bool := decide (i + n ≤ s.cfg.maxDataBufferSize)

end Sys2Proof.Machine
end

