-- ==== Sys2Proof/Machine/Calc.lean ====
section
/-! DEFINITION. The configuration calculators (42_calculators.md): exact arithmetic on mathematical integers (R126), and the
five calculator micro-operations as instructions. -/

namespace Sys2Proof.Machine

/-- `FSK_BANDWIDTH_CODE(bw_hz)` over a table (R120): the code of the entry `i` of the adjacent pair with
`T[i].bw <= bw_hz < T[i+1].bw`; `none` where no pair brackets the request (`InvalidBandwidth`). -/
def bandwidthCode : List BwEntry → Nat → Option Byte
  | [], _ => none
  | [_], _ => none
  | a :: b :: rest, bw => if a.bw ≤ bw ∧ bw < b.bw then some a.code else bandwidthCode (b :: rest) bw

/-- `clamp(v, lo, hi) = max(lo, min(v, hi))` (R7). -/
def clamp (v lo hi : Int) : Int := max lo (min v hi)

/-- The three results of `TX_POWER_ENCODE` (R123): the clamped power, the boost bit and the 4-bit power field. -/
structure TxPower where
  p : Int
  boost20 : Bool
  field : BitVec 4
  deriving DecidableEq, Repr

/-- `TX_POWER_ENCODE(power, path)` (R122, R123). -/
def txPowerEncode (power : Int) (path : PaPath) : TxPower :=
  match path with
  | .paBoost =>
    if power > 17 then ⟨clamp power 5 20, true, BitVec.ofInt 4 (clamp power 5 20 - 5)⟩
    else ⟨clamp power 2 17, false, BitVec.ofInt 4 (clamp power 2 17 - 2)⟩
  | .rfo => ⟨clamp power (-1) 14, false, BitVec.ofInt 4 (clamp power (-1) 14 + 1)⟩

/-- The new `REG_PACONFIG` from the value read (R124): the path bit, then the power field; every other bit as read. -/
def paConfigValue (r : RegMap) (path : PaPath) (pa : Byte) (field : BitVec 4) : Byte :=
  (((pa &&& r.paSelectMask) ||| (match path with | .paBoost => r.paSelect | .rfo => 0)) &&& r.paPowerMask)
    ||| field.setWidth 8

/-- The new `REG_PADAC` from the value read (R124): on `Rfo` it is written back as read. -/
def paDacValue (r : RegMap) (path : PaPath) (dac : Byte) (boost20 : Bool) : Byte :=
  match path with
  | .paBoost => (dac &&& r.paDac20dBmMask) ||| (if boost20 then r.paDac20dBmOn else r.paDac20dBmOff)
  | .rfo => dac

/-- `SET_RF_TX_POWER(power)` (R124): two reads, then two writes. -/
def setRfTxPower (power : Byte) (s : State) : State :=
  let r := s.cfg.regmap
  let path := s.cfg.paSelect
  let pa := regRead r.paConfig s
  let dac := regRead r.paDac pa.2
  let e := txPowerEncode power.toInt path
  regWrite r.paDac (paDacValue r path dac.1 e.boost20)
    (regWrite r.paConfig (paConfigValue r path pa.1 e.field) dac.2)

/-- `FSK_TIME_ON_AIR` (R127): `round(8*N*1000 / datarate)`, halves away from zero; no result for `datarate = 0`. -/
def fskTimeOnAir (preambleLen syncWordLen addrFilterByte payloadLen crcBytes datarate : Nat) : Option Nat :=
  let n := preambleLen + syncWordLen + addrFilterByte + payloadLen + crcBytes
  if datarate = 0 then none else some ((16000 * n + datarate) / (2 * datarate))

/-- `ceil(a / b)` for `b > 0` (R7). -/
def ceilDiv (a b : Int) : Int := -((-a) / b)

/-- A `bool` as 0 or 1. -/
def bit (b : Bool) : Int := if b then 1 else 0

/-- `nPayload`, the payload symbol count of R128. -/
def loraPayloadSymbols (sf cr payloadLen : Nat) (crcOn fixedLen ldro : Bool) : Int :=
  let num := 8 * (payloadLen : Int) - 4 * sf + 28 + 16 * bit crcOn - 20 * bit fixedLen
  let den := 4 * ((sf : Int) - 2 * bit ldro)
  8 + max (ceilDiv num den * (cr + 4)) 0

/-- `LORA_TIME_ON_AIR` (R128), exact; no result when `sf <= 2*ldro` or `bw_hz = 0`. -/
def loraTimeOnAir (bwHz sf cr preambleLen payloadLen : Nat) (crcOn fixedLen ldro : Bool) : Option Nat :=
  if (sf : Int) ≤ 2 * bit ldro ∨ bwHz = 0 then none
  else some (ceilDiv
    ((4 * (preambleLen : Int) + 17 + 4 * loraPayloadSymbols sf cr payloadLen crcOn fixedLen ldro) * 2 ^ sf * 250)
    bwHz).toNat

/-- What a calculator without a result hands over: nothing is returned (R127, R128: "has no result"). -/
def msReturned : Option Nat → Returned
  | some n => .ms n
  | none => .noResult

/-- `FSK_BANDWIDTH_CODE` as an instruction (R120): the code, or `raise InvalidBandwidth(bw_hz)`. -/
def execFskBandwidthCode (bwHz : Word) (s : State) : Result :=
  .next (returns (match bandwidthCode s.cfg.fskBwTable bwHz.toNat with
    | some c => .code c
    | none => .invalidBandwidth bwHz) s)

/-- `TX_POWER_ENCODE` as an instruction (R123). -/
def execTxPowerEncode (power : Byte) (path : PaPath) (s : State) : Result :=
  let e := txPowerEncode power.toInt path
  .next (returns (.txPower e.p e.boost20 e.field) s)

/-- `SET_RF_TX_POWER` as an instruction (R124). -/
def execSetRfTxPower (power : Byte) (s : State) : Result := .next (setRfTxPower power s)

/-- `FSK_TIME_ON_AIR` as an instruction (R127). -/
def execFskTimeOnAir (preambleLen syncWordLen addrFilterByte payloadLen crcBytes datarate : Nat) (s : State) : Result :=
  .next (returns (msReturned (fskTimeOnAir preambleLen syncWordLen addrFilterByte payloadLen crcBytes datarate)) s)

/-- `LORA_TIME_ON_AIR` as an instruction (R128). -/
def execLoraTimeOnAir (bwHz sf cr preambleLen payloadLen : Nat) (crcOn fixedLen ldro : Bool) (s : State) : Result :=
  .next (returns (msReturned (loraTimeOnAir bwHz sf cr preambleLen payloadLen crcOn fixedLen ldro)) s)

end Sys2Proof.Machine
end

