-- ==== Sys2Proof/Machine/Msc.lean ====
section
/-! DEFINITION. The mode/state controller (43_mode_controller.md): operating mode and antenna pins, modem selection, chip
reset, and the commands `SLEEP` and `STANDBY`. -/

namespace Sys2Proof.Machine

/-- The pins of the low-power posture, in the order of R141, at the board's levels (R144: 0 each, or what `WIRING` says);
`pwr_amp_ctl` is always driven low (R145; log entry 21). -/
def lowPowerPins (w : Wiring) : List (Pin × Bool) :=
  [(.pwrAmpCtl, false), (.antSwitch, w.levels.cLow), (.rfSwitchCtl1, w.levels.aLow.1), (.rfSwitchCtl2, w.levels.aLow.2),
   (.txctl, w.levels.bLow.1), (.rxctl, w.levels.bLow.2)]

/-- `ANTENNA_LOW_POWER()` (R141). -/
def antennaLowPower (s : State) : State := gpioSetAll (lowPowerPins s.cfg.wiring) s

/-- The two pins of scheme A at a pair of levels. -/
def pinsA (l : Bool × Bool) : List (Pin × Bool) := [(.rfSwitchCtl1, l.1), (.rfSwitchCtl2, l.2)]

/-- The two pins of scheme B at a pair of levels. -/
def pinsB (l : Bool × Bool) : List (Pin × Bool) := [(.txctl, l.1), (.rxctl, l.2)]

/-- The pins and levels of a target mode's class under a scheme, at the board's levels (R143, R144); `boost` is the chip's
PA-boost select bit, which only scheme A in the TX class reads. -/
def switchPins (w : Wiring) (sch : Scheme) (c : ModeClass) (boost : Bool) : List (Pin × Bool) :=
  match sch, c with
  | .a, .tx => pinsA (if boost then w.levels.aTxBoost else w.levels.aTxRfo)
  | .a, .rx => pinsA w.levels.aRx
  | .a, .other => pinsA w.levels.aOther
  | .b, .tx => pinsB w.levels.bTx
  | .b, .rx => pinsB w.levels.bRx
  | .b, .other => pinsB w.levels.bOther
  | .c, .tx => [(.antSwitch, w.levels.cTx)]
  | .c, .rx => [(.antSwitch, w.levels.cRx)]
  | .c, .other => [(.antSwitch, w.levels.cOther)]
  | .none, _ => []

/-- `SET_ANTENNA_SWITCH(mode)` (R143). -/
def setAntennaSwitch (mode : OpMode) (s : State) : State :=
  let sch := scheme s.cfg.wiring
  let c := modeClass mode
  if sch = .a ∧ c = .tx then
    let v := regRead s.cfg.regmap.paConfig s
    gpioSetAll (switchPins s.cfg.wiring sch c (flagSet v.1 s.cfg.regmap.paSelect)) v.2
  else gpioSetAll (switchPins s.cfg.wiring sch c false) s

/-- The pins before a mode write (R140): the low-power posture before Sleep, the antenna switch before any other mode. -/
def drivePins (mode : OpMode) (s : State) : State :=
  match mode with
  | .sleep => antennaLowPower s
  | .standby => setAntennaSwitch .standby s
  | .transmitter => setAntennaSwitch .transmitter s
  | .receiver => setAntennaSwitch .receiver s
  | .receiverSingle => setAntennaSwitch .receiverSingle s
  | .cad => setAntennaSwitch .cad s

/-- `SET_OPERATION_MODE(mode)` (R140): the pins first, then one read and one write of `REG_OPMODE`. -/
def setOperationMode (mode : OpMode) (s : State) : State :=
  regSet s.cfg.regmap.opmode s.cfg.regmap.opmodeModeMask (modeValue s.cfg.regmap mode) (drivePins mode s)

/-- The operation of `SLEEP` (R149). -/
def sleepOp (s : State) : State := setOperationMode .sleep (goIdle s)

/-- The operation of `STANDBY` (R150). -/
def standbyOp (s : State) : State := setOperationMode .standby (goIdle s)

/-- The long-range-mode bit of a modem (R146). -/
def lrmBits (r : RegMap) : ModemKind → Byte
  | .lora => r.opmodeLrm
  | .fsk => 0

/-- The change path of `SET_MODEM` (R146): force Sleep, flip the long-range-mode bit, reprogram the DIO mapping. -/
def switchModem (kind : ModemKind) (s : State) : State :=
  applySeq (diomapDefault s.cfg.chipSeq kind)
    (regSet s.cfg.regmap.opmode (~~~s.cfg.regmap.opmodeLrm) (lrmBits s.cfg.regmap kind)
      (sleepOp { s with modem := kind }))

/-- `SET_MODEM(kind)` (R146): the cache is reloaded from the chip, then nothing more if the chip already is `kind`. -/
def setModem (kind : ModemKind) (s : State) : State :=
  let v := regRead s.cfg.regmap.opmode s
  if modemOfOpmode s.cfg.regmap v.1 = kind then { v.2 with modem := kind } else switchModem kind v.2

/-- `RADIO_RESET()` (R148). -/
def radioReset (s : State) : State :=
  let s1 := { record .rstLow s with rst := .drivenLow }
  let s2 := wait s.cfg.resetLowMs s1
  let s3 := { record .rstRelease s2 with rst := .released }
  wait s.cfg.resetWaitMs s3

/-- `SET_OPERATION_MODE` as an instruction (R140). -/
def execSetOperationMode (mode : OpMode) (s : State) : Result := .next (setOperationMode mode s)

/-- `SET_ANTENNA_SWITCH` as an instruction (R143). `Sleep` is no operand of it; the text's "OTHER otherwise" is what such
a call would drive (log entry 18). -/
def execSetAntennaSwitch (mode : OpMode) (s : State) : Result := .next (setAntennaSwitch mode s)

/-- `ANTENNA_LOW_POWER` as an instruction (R141). -/
def execAntennaLowPower (s : State) : Result := .next (antennaLowPower s)

/-- `SET_MODEM` as an instruction (R146). -/
def execSetModem (kind : ModemKind) (s : State) : Result := .next (setModem kind s)

/-- `RADIO_RESET` as an instruction (R148). -/
def execRadioReset (s : State) : Result := .next (radioReset s)

/-- `SLEEP`, host command (R149). -/
def execSleep (s : State) : Result := .next (respond [] (sleepOp s))

/-- `STANDBY`, host command (R150). -/
def execStandby (s : State) : Result := .next (respond [] (standbyOp s))

end Sys2Proof.Machine
end

