-- ==== Sys2Proof/Machine/Pipeline.lean ====
section
/-! DEFINITION. The start of an operation (44_pipeline.md): `SEND`, `TRANSMIT`, `RECEIVE`, `START_CAD`. None has a state
guard (R151, R297). -/

namespace Sys2Proof.Machine

/-- `S.fsk_ph.fifo_thresh <- RegRead(REG_FIFOTHRESH) & FIFOTHRESH_MASK` (R164, R166). -/
def captureFifoThresh (s : State) : State :=
  let v := regRead s.cfg.regmap.fifoThresh s
  { v.2 with fskPh := { v.2.fskPh with fifoThresh := v.1 &&& s.cfg.regmap.fifoThreshMask } }

/-- `TRANSMIT(timeout_ms)` (R164): the timer is armed before the mode write. -/
def transmit (timeoutMs : Word) (s : State) : State :=
  let s1 := applySeq (txMap s.cfg.chipSeq s.modem s.lora.freqHopOn) s
  let s2 := match s.modem with
    | .fsk => captureFifoThresh s1
    | .lora => s1
  setOperationMode .transmitter (timerStart timeoutMs { s2 with state := .txRunning })

/-- `WakeIfSleep()` (R162): the test is on what the chip answers. -/
def wakeIfSleep (s : State) : State :=
  let v := regRead s.cfg.regmap.opmode s
  if v.1 &&& ~~~s.cfg.regmap.opmodeModeMask = s.cfg.regmap.modeSleep then wait s.cfg.wakeMs (standbyOp v.2) else v.2

/-- The length of an FSK body on its way out: a prefix byte, or the fixed-length register (R161). -/
def sendFskLength (size : Byte) (s : State) : State :=
  if s.fsk.fixLen then regWrite s.cfg.regmap.payloadLength size s else fifoWrite [size] s

/-- `SendFsk(size)` (R161). `chunk_size` and `nb_bytes` of a first chunk too large for them are free (log entry 10). -/
def sendFsk (size : Byte) (s : State) : Result :=
  let chunk := firstChunk s.cfg size.toNat
  let s1 := { s with fskPh := { s.fskPh with nbBytes := 0, size := size.setWidth 16 } }
  let s2 := sendFskLength size (wakeIfSleep s1)
  let s3 := { s2 with fskPh := { s2.fskPh with chunkSize := chunkField chunk } }
  if inBuffer 0 chunk s3 then
    let s4 := fifoWrite (memRead 0 chunk s3) s3
    let s5 := { s4 with fskPh := { s4.fskPh with nbBytes := nbBytesField chunk } }
    .next (transmit s5.fsk.txTimeout s5)
  else .fault .bufferBounds

/-- `SendLora(size)` (R163). -/
def sendLora (size : Byte) (s : State) : State :=
  let r := s.cfg.regmap
  let s1 := { s with loraPh := { s.loraPh with size := size } }
  let s2 := regWrite r.lrFifoAddrPtr 0 (regWrite r.lrFifoTxBaseAddr 0 (regWrite r.lrPayloadLength size s1))
  let s3 := wakeIfSleep s2
  let s4 := fifoWrite (memRead 0 size.toNat s3) s3
  transmit s4.lora.txTimeout s4

/-- `SEND`, host command (R160). A frame whose length is not `2 + size`, or a `size` over the buffer, is refused (R94). -/
def execSend (size : Byte) (buffer : List Byte) (s : State) : Result :=
  if buffer.length = size.toNat ∧ inBuffer 0 size.toNat s then
    let s1 := memWrite 0 buffer s
    match s.modem with
    | .fsk => andThen (sendFsk size s1) (fun t => .next (respond [] t))
    | .lora => .next (respond [] (sendLora size s1))
  else .next (raiseError .refused s)

/-- `TRANSMIT` as an instruction (R164). -/
def execTransmit (timeoutMs : Word) (s : State) : Result := .next (transmit timeoutMs s)

/-- The first half of `RECEIVE` (R166): the mapping, and for FSK the threshold and the packet state. -/
def receivePrepare (s : State) : State :=
  match s.modem with
  | .fsk => clearFskPacketState (captureFifoThresh (applySeq s.cfg.chipSeq.rxMapFsk s))
  | .lora => applySeq (rxMapLora s.cfg.chipSeq s.lora.freqHopOn s.lora.rxContinuous) s

/-- The mode `RECEIVE` selects (R166). -/
def receiveMode (s : State) : OpMode :=
  match s.modem with
  | .fsk => .receiver
  | .lora => if s.lora.rxContinuous then .receiver else .receiverSingle

/-- `RECEIVE`, host command (R166): no timer is armed and none is cancelled. -/
def execReceive (s : State) : Result :=
  .next (respond [] (setOperationMode (receiveMode s) { zeroBuffer (receivePrepare s) with state := .rxRunning }))

/-- `START_CAD`, host command (R168): nothing at all for FSK. -/
def execStartCad (s : State) : Result :=
  match s.modem with
  | .fsk => .next (respond [] s)
  | .lora =>
    .next (respond [] { setOperationMode .cad (applySeq s.cfg.chipSeq.cadMap s) with state := .cad })

end Sys2Proof.Machine
end

