-- ==== Sys2Proof/Machine/Facade.lean ====
section
/-! DEFINITION. The other host commands (46_facade.md) and `LOAD_DEFAULT_REGISTERS`. Each ends with one response (R232); a
command that raises has done nothing before (R255). -/

namespace Sys2Proof.Machine

/-- One entry of `INIT_REGS` (R211): the modem, then the write. -/
def applyInit (s : State) (e : InitEntry) : State := regWrite e.addr e.value (setModem e.kind s)

/-- `LOAD_DEFAULT_REGISTERS()` (R211). -/
def loadDefaultRegisters (s : State) : State := s.cfg.chipSeq.initRegs.foldl applyInit s

/-- `LOAD_DEFAULT_REGISTERS` as an instruction (R211). -/
def execLoadDefaultRegisters (s : State) : Result := .next (loadDefaultRegisters s)

/-- `INIT_RADIO`, host command (R210). -/
def execInitRadio (callbacks : Byte) (s : State) : Result :=
  let s1 := { s with cbSet := callbacks.setWidth 7 }
  let s2 := setOperationMode .sleep (radioReset s1)
  let s3 := goIdle (setModem .fsk (loadDefaultRegisters s2))
  .next (respond [] { s3 with irqArmed := true })

/-- The operation of `SET_CHANNEL` (R212). -/
def setChannelOp (freqHz : Word) (s : State) : State :=
  applySeq (channelWrites s.cfg freqHz) { s with channel := freqHz }

/-- `SET_CHANNEL`, host command (R212). -/
def execSetChannel (freqHz : Word) (s : State) : Result := .next (respond [] (setChannelOp freqHz s))

/-- `GET_STATUS`, host command (R213). -/
def execGetStatus (s : State) : Result := .next (respond [s.state.code] s)

/-- Step 1 of `SET_RX_CONFIG` (R214): for FSK both bandwidths are looked up. -/
def rxConfigValid (a : RxConfigArgs) (s : State) : Bool :=
  match a.modem with
  | .fsk => (bandwidthCode s.cfg.fskBwTable a.bandwidth.toNat).isSome
      && (bandwidthCode s.cfg.fskBwTable a.afcBandwidth.toNat).isSome
  | .lora => true

/-- Step 3 of `SET_RX_CONFIG` (R214): the fields stored for the modem. -/
def storeRxConfig (a : RxConfigArgs) (s : State) : State :=
  match a.modem with
  | .fsk =>
    { s with fsk := { s.fsk with
        bandwidth := a.bandwidth, datarate := a.datarate, bandwidthAfc := a.afcBandwidth, preambleLen := a.preambleLen,
        fixLen := a.fixedLen, payloadLen := a.payloadLen, crcOn := a.crcOn, freqHopOn := a.freqHopOn,
        hopPeriod := a.hopPeriod, iqInverted := a.iqInverted, rxContinuous := a.rxContinuous,
        rxSingleTimeout := rxSingleTimeout a.symbolTimeout a.datarate } }
  | .lora =>
    { s with lora := { s.lora with
        bandwidth := a.bandwidth, datarate := a.datarate, coderate := a.coderate, preambleLen := a.preambleLen,
        symbolTimeout := a.symbolTimeout, fixLen := a.fixedLen, payloadLen := a.payloadLen, crcOn := a.crcOn,
        freqHopOn := a.freqHopOn, hopPeriod := a.hopPeriod, iqInverted := a.iqInverted, rxContinuous := a.rxContinuous,
        lowDatarateOptimize := ldroOf a.bandwidth a.datarate } }

/-- `SET_RX_CONFIG`, host command (R214): validate, select, store, program. -/
def execSetRxConfig (a : RxConfigArgs) (s : State) : Result :=
  if rxConfigValid a s then
    let s1 := storeRxConfig a (setModem a.modem s)
    .next (respond [] (applySeq (configWrites s1.cfg.chipSeq.rxcfg a.modem s1) s1))
  else .next (raiseError .invalidBandwidth s)

/-- The fields `SET_TX_CONFIG` stores for the modem (R217); `power` is the request. -/
def storeTxConfig (a : TxConfigArgs) (s : State) : State :=
  match a.modem with
  | .fsk =>
    { s with fsk := { s.fsk with
        power := a.power, freqDev := a.freqDev, bandwidth := a.bandwidth, datarate := a.datarate,
        preambleLen := a.preambleLen, fixLen := a.fixedLen, crcOn := a.crcOn, freqHopOn := a.freqHopOn,
        hopPeriod := a.hopPeriod, iqInverted := a.iqInverted, txTimeout := a.timeoutMs } }
  | .lora =>
    { s with lora := { s.lora with
        power := a.power, bandwidth := a.bandwidth, datarate := a.datarate, coderate := a.coderate,
        preambleLen := a.preambleLen, fixLen := a.fixedLen, crcOn := a.crcOn, freqHopOn := a.freqHopOn,
        hopPeriod := a.hopPeriod, iqInverted := a.iqInverted, txTimeout := a.timeoutMs,
        lowDatarateOptimize := ldroOf a.bandwidth a.datarate } }

/-- The operation of `SET_TX_CONFIG` (R217): select, power, store, program. -/
def setTxConfigOp (a : TxConfigArgs) (s : State) : State :=
  let s1 := storeTxConfig a (setRfTxPower a.power (setModem a.modem s))
  applySeq (txConfigWrites a.modem s1) s1

/-- `SET_TX_CONFIG`, host command (R217). -/
def execSetTxConfig (a : TxConfigArgs) (s : State) : Result := .next (respond [] (setTxConfigOp a s))

/-- `SET_MAX_PAYLOAD_LENGTH`, host command (R220). -/
def execSetMaxPayloadLength (modem : ModemKind) (max : Byte) (s : State) : Result :=
  let s1 := setModem modem s
  let s2 := match modem with
    | .fsk => if s1.fsk.fixLen then s1 else regWrite s1.cfg.regmap.payloadLength max s1
    | .lora => regWrite s1.cfg.regmap.lrPayloadMaxLength max s1
  .next (respond [] s2)

/-- The sync word of a network setting (R221). -/
def syncword (c : Config) (enabled : Bool) : Byte := if enabled then c.syncwordPublic else c.syncwordPrivate

/-- `SetPublicNetwork(enabled)` (R221): leaves LoRa selected. -/
def setPublicNetworkOp (enabled : Bool) (s : State) : State :=
  let s1 := setModem .lora s
  regWrite s1.cfg.regmap.lrSyncWord (syncword s1.cfg enabled) { s1 with lora := { s1.lora with publicNetwork := enabled } }

/-- `SET_PUBLIC_NETWORK`, host command (R221). -/
def execSetPublicNetwork (enabled : Bool) (s : State) : Result := .next (respond [] (setPublicNetworkOp enabled s))

/-- The sync word length as the chip holds it (R222, R223). -/
def syncWordLen (r : RegMap) (v : Byte) : Nat := (v &&& ~~~r.syncSizeMask).toNat + 1

/-- The address byte is present when the address-filtering field is not zero (R222, R223). -/
def addrFilterByte (r : RegMap) (v : Byte) : Nat := if flagSet v (~~~r.addrsFilteringMask) then 1 else 0

/-- The response of `TIME_ON_AIR` (R222): the result when there is one below 2^32. -/
def respondMs (ms : Option Nat) (s : State) : State :=
  match ms with
  | some n => if n < 2 ^ 32 then respond (le32 (BitVec.ofNat 32 n)) s else raiseError .refused s
  | none => raiseError .refused s

/-- `TIME_ON_AIR` for FSK (R222, R223): two bus reads, in whatever register page the chip is in. -/
def timeOnAirFsk (payloadLen : Byte) (s : State) : State :=
  if s.fsk.datarate = 0 then raiseError .refused s
  else
    let r := s.cfg.regmap
    let sync := regRead r.syncConfig s
    let pkt := regRead r.packetConfig1 sync.2
    let crc := if s.fsk.crcOn then 2 else 0
    respondMs (fskTimeOnAir s.fsk.preambleLen.toNat (syncWordLen r sync.1) (addrFilterByte r pkt.1) payloadLen.toNat
      crc s.fsk.datarate.toNat) pkt.2

/-- `TIME_ON_AIR` for LoRa (R222): no bus transaction. -/
def timeOnAirLora (payloadLen : Byte) (s : State) : State :=
  let sf := s.lora.datarate.toNat
  match loraBwHz s.lora.bandwidth.toNat with
  | none => raiseError .refused s
  | some bw =>
    if (sf : Int) ≤ 2 * bit s.lora.lowDatarateOptimize ∨ 64 ≤ sf then raiseError .refused s
    else respondMs (loraTimeOnAir bw sf s.lora.coderate.toNat s.lora.preambleLen.toNat payloadLen.toNat s.lora.crcOn
      s.lora.fixLen s.lora.lowDatarateOptimize) s

/-- `TIME_ON_AIR`, host command (R222). -/
def execTimeOnAir (modem : ModemKind) (payloadLen : Byte) (s : State) : Result :=
  match modem with
  | .fsk => .next (timeOnAirFsk payloadLen s)
  | .lora => .next (timeOnAirLora payloadLen s)

/-- `CHECK_RF_FREQUENCY`, host command (R224): always accepts. -/
def execCheckRfFrequency (_freq : Word) (s : State) : Result := .next (respond [1] s)

/-- The 32 polls of `RANDOM` (R226): `n` polls are left, the next one fills bit `32 - n`. -/
def randomLoop : Nat → Word → State → Word × State
  | 0, value, s => (value, s)
  | n + 1, value, s =>
    let v := regRead s.cfg.regmap.lrRssiWideband (wait s.cfg.pollMs s)
    randomLoop n (value ||| ((v.1 &&& 1).setWidth 32 <<< (31 - n))) v.2

/-- `RANDOM`, host command (R226). -/
def execRandom (s : State) : Result :=
  let s1 := setModem .lora s
  let s2 := setOperationMode .receiver (regWrite s1.cfg.regmap.lrIrqFlagsMask 0xFF s1)
  let v := randomLoop 32 0 s2
  .next (respond (le32 v.1) (sleepOp v.2))

/-- `CurrentRssi(modem)` (R227): a mathematical integer, in dBm. -/
def currentRssi (modem : ModemKind) (s : State) : Int × State :=
  match modem with
  | .fsk => (fskRssi (regRead s.cfg.regmap.rssiValue s).1, (regRead s.cfg.regmap.rssiValue s).2)
  | .lora => (s.cfg.rssiOffset + (regRead s.cfg.regmap.lrRssiValue s).1.toNat, (regRead s.cfg.regmap.lrRssiValue s).2)

/-- The polls of `PERFORM_CARRIER_SENSE` (R227): a reading above the threshold ends them; the comparison is strict. -/
def senseLoop (modem : ModemKind) (threshold : Int) : Nat → State → Bool × State
  | 0, s => (true, s)
  | n + 1, s =>
    let v := currentRssi modem s
    if v.1 > threshold then (false, v.2) else senseLoop modem threshold n (wait s.cfg.pollMs v.2)

/-- `draw natural with N <= bound` (R227, D43): the next scripted draw, or a free one, never above the bound (log entry 9). -/
def drawPolls (bound : Nat) (s : State) : Nat × State :=
  (min (s.draws.headD (Config.pollDraw s.drawn)) bound, { s with draws := s.draws.drop 1, drawn := s.drawn + 1 })

/-- `PERFORM_CARRIER_SENSE`, host command (R227). -/
def execPerformCarrierSense (modem : ModemKind) (freq : Word) (rssiThreshold : Half) (maxDurationMs : Word) (s : State) :
    Result :=
  let s1 := setChannelOp freq (setModem modem s)
  let s2 := wait s.cfg.pollMs (setOperationMode .receiver s1)
  let d := drawPolls (pollBound s.cfg.pollMs maxDurationMs) s2
  let v := senseLoop modem rssiThreshold.toInt d.1 d.2
  .next (respond [boolByte v.1] (sleepOp v.2))

/-- The `SET_TX_CONFIG` operands of a continuous wave (R228). -/
def cwArgs (power : Byte) (timeout : Word) : TxConfigArgs where
  modem := .fsk
  power := power
  freqDev := 0
  bandwidth := 0
  datarate := 4800
  coderate := 0
  preambleLen := 5
  fixedLen := false
  crcOn := false
  freqHopOn := false
  hopPeriod := 0
  iqInverted := false
  timeoutMs := timeout

/-- `SET_TX_CONTINUOUS_WAVE`, host command (R228). -/
def execSetTxContinuousWave (freq : Word) (power : Byte) (duration : Half) (s : State) : Result :=
  let timeout := cwTimeout s.cfg.cwDurationUnitMs duration
  let s1 := setTxConfigOp (cwArgs power timeout) (setChannelOp freq s)
  let s2 := { applySeq s1.cfg.chipSeq.cwMap s1 with state := .txRunning }
  .next (respond [] (setOperationMode .transmitter (timerStart timeout s2)))

/-- `LOCK`, host command (R230). -/
def execLock (s : State) : Result :=
  if s.lock = 255 then .next (raiseError .refused s) else .next (respond [] { s with lock := s.lock + 1 })

/-- `UNLOCK`, host command (R231). -/
def execUnlock (s : State) : Result :=
  if s.lock = 0 then .next (raiseError .refused s) else .next (respond [] { s with lock := s.lock - 1 })

end Sys2Proof.Machine
end

