-- ==== Sys2Proof/Machine/Events.lean ====
section
/-! DEFINITION. The seven event handlers and the packet deframer (45_event_handlers.md). A handler has no operands, reads
`S.state` and `S.modem` as it finds them, and never puts anything on `RSP` (R180, R203). A (state, modem) pair for which
the document lists nothing is a no-op (R180, R200). -/

namespace Sys2Proof.Machine

/-- `RegSet(REG_RXCONFIG, 0xFF, RXCONFIG_RESTART_NO_PLL)` (R183, R185, R195). -/
def restartRx (s : State) : State := regSet s.cfg.regmap.rxConfig 0xFF s.cfg.regmap.rxConfigRestartNoPll s

/-- The end of an FSK reception: restart if continuous, else `GoIdle` (R183, R195). -/
def fskRxEnd (s : State) : State := if s.fsk.rxContinuous then restartRx s else goIdle s

/-- `FSK_RX_ABORT()` (R183). -/
def fskRxAbort (s : State) : State :=
  clearFskPacketState (emit .rxError (fskRxEnd (applySeq s.cfg.chipSeq.fskRxAbortClear s)))

/-- `FSK_RX_ABORT` as an instruction (R183). -/
def execFskRxAbort (s : State) : Result := .next (fskRxAbort s)

/-- Where `FskExtractLength` takes the length from (R182): the FIFO's prefix byte or the fixed-length register. -/
def readLength (s : State) : Byte × State :=
  if s.fsk.fixLen then regRead s.cfg.regmap.payloadLength s
  else ((fifoRead 1 s).1.headD 0, (fifoRead 1 s).2)

/-- `FskExtractLength()` (R182): `true` to go on; `false` after the abort of an over-long packet (R184). -/
def fskExtractLength (s : State) : Bool × State :=
  if s.fskPh.size = 0 ∧ s.fskPh.nbBytes = 0 then
    let v := readLength s
    if v.1.toNat > s.cfg.maxDataBufferSize then (false, fskRxAbort v.2)
    else (true, { v.2 with fskPh := { v.2.fskPh with size := v.1.setWidth 16 } })
  else (true, s)

/-- `nb_bytes <= size`, and the next `n` bytes after `nb_bytes` lie in the buffer (R21, R53). -/
def packetInBuffer (n : Nat) (s : State) : Bool :=
  decide (s.fskPh.nbBytes.toNat ≤ s.fskPh.size.toNat) && inBuffer s.fskPh.nbBytes.toNat n s

/-- How many bytes of the packet are still to move. -/
def bytesLeft (s : State) : Nat := s.fskPh.size.toNat - s.fskPh.nbBytes.toNat

/-- `n` bytes from the FIFO to the buffer at `nb_bytes`, which advances (R53, R185, R193). -/
def drainFsk (n : Nat) (s : State) : State :=
  let v := fifoRead n s
  let s1 := memWrite s.fskPh.nbBytes.toNat v.1 v.2
  { s1 with fskPh := { s1.fskPh with nbBytes := s.fskPh.nbBytes + BitVec.ofNat 16 n } }

/-- `n` bytes from the buffer at `nb_bytes` to the FIFO, which advances (R53, R193). -/
def refillFsk (n : Nat) (s : State) : State :=
  let s1 := fifoWrite (memRead s.fskPh.nbBytes.toNat n s) s
  { s1 with fskPh := { s1.fskPh with nbBytes := s.fskPh.nbBytes + BitVec.ofNat 16 n } }

/-- `CaptureFskReadings()` (R190): four reads, in this order. -/
def captureFskReadings (s : State) : State :=
  let r := s.cfg.regmap
  let rssi := regRead r.rssiValue s
  let msb := regRead r.afcMsb rssi.2
  let lsb := regRead r.afcLsb msb.2
  let lna := regRead r.lna lsb.2
  { lna.2 with fskPh := { lna.2.fskPh with
      rssiValue := BitVec.ofInt 16 (fskRssi rssi.1), afcValue := msb.1 ++ lsb.1, rxGain := (lna.1 >>> 5) &&& 0x07 } }

/-- The end of a good FSK packet (R185): readings, idle or restart, `rx_done` with SNR 0, packet state cleared. -/
def fskDeliver (s : State) : State :=
  let s1 := fskRxEnd (captureFskReadings s)
  clearFskPacketState
    (emit (.rxDone s1.fskPh.size s1.fskPh.rssiValue 0 (memRead 0 s1.fskPh.size.toNat s1)) s1)

/-- `Dio0RxFsk()` after the CRC check (R185). -/
def fskComplete (s : State) : Result :=
  let e := fskExtractLength s
  if e.1 then
    if packetInBuffer (bytesLeft e.2) e.2 then .next (fskDeliver (drainFsk (bytesLeft e.2) e.2))
    else .fault .bufferBounds
  else .next e.2

/-- `Dio0RxFsk()` (R185). -/
def dio0RxFsk (s : State) : Result :=
  if s.fsk.crcOn then
    let f := regRead s.cfg.regmap.irqFlags2 s
    if flagSet f.1 s.cfg.regmap.irq2CrcOk then fskComplete f.2 else .next (fskRxAbort f.2)
  else fskComplete s

/-- LoRa: `GoIdle()` if single-shot (R186). -/
def loraRxEnd (s : State) : State := if s.lora.rxContinuous then s else goIdle s

/-- `LoraDrain(len)` (R189). -/
def loraDrain (len : Byte) (s : State) : State :=
  let a := regRead s.cfg.regmap.lrFifoRxCurrentAddr s
  let s1 := regWrite s.cfg.regmap.lrFifoAddrPtr a.1 a.2
  let v := fifoRead len.toNat s1
  memWrite 0 v.1 v.2

/-- The SNR and RSSI readings of a LoRa packet (R186, R187, R188). -/
def captureLoraReadings (s : State) : State :=
  let r := s.cfg.regmap
  let sn := regRead r.lrPktSnrValue s
  let rs := regRead r.lrPktRssiValue sn.2
  let snr := snrOf s.cfg.snrWidth sn.1
  { rs.2 with loraPh := { rs.2.loraPh with
      snrValue := BitVec.ofInt 8 snr, rssiValue := rssiField (loraRssi s.cfg.rssiOffset rs.1 snr) } }

/-- The drain and delivery of a LoRa packet of `len` bytes (R186). -/
def loraDeliver (len : Byte) (s : State) : State :=
  let s1 := loraRxEnd (loraDrain len { s with loraPh := { s.loraPh with size := len } })
  emit (.rxDone (len.setWidth 16) s1.loraPh.rssiValue s1.loraPh.snrValue (memRead 0 len.toNat s1)) s1

/-- `Dio0RxLora()` (R186). -/
def dio0RxLora (s : State) : State :=
  let r := s.cfg.regmap
  let f := regRead r.lrIrqFlags (regWrite r.lrIrqFlags r.lrRxDone s)
  if flagSet f.1 r.lrPayloadCrcError then
    emit .rxError (loraRxEnd (regWrite r.lrIrqFlags r.lrPayloadCrcError f.2))
  else
    let s1 := captureLoraReadings f.2
    let len := regRead r.lrRxNbBytes s1
    if len.1.toNat > s.cfg.maxDataBufferSize then emit .rxError (loraRxEnd len.2) else loraDeliver len.1 len.2

/-- `Dio0Tx()` (R192): `GoIdle()` with the LoRa flag clear between its two steps. -/
def dio0Tx (s : State) : State :=
  let s1 := timerCancel s
  let s2 := match s.modem with
    | .lora => regWrite s.cfg.regmap.lrIrqFlags s.cfg.regmap.lrTxDone s1
    | .fsk => s1
  emit .txDone { s2 with state := .idle }

/-- `DIO0_IRQ` (R191). -/
def execDio0Irq (s : State) : Result :=
  match s.state, s.modem with
  | .rxRunning, .fsk => dio0RxFsk s
  | .rxRunning, .lora => .next (dio0RxLora s)
  | .txRunning, _ => .next (dio0Tx s)
  | .idle, _ => .next s
  | .cad, _ => .next s

/-- The FSK reception burst of DIO1 (R193). -/
def dio1RxFsk (s : State) : Result :=
  let e := fskExtractLength s
  if e.1 then
    let n := min (bytesLeft e.2) e.2.fskPh.fifoThresh.toNat
    if packetInBuffer n e.2 then .next (drainFsk n e.2) else .fault .bufferBounds
  else .next e.2

/-- The FSK transmission refill of DIO1 (R193). -/
def dio1TxFsk (s : State) : Result :=
  let n := min (bytesLeft s) s.fskPh.chunkSize.toNat
  if packetInBuffer n s then .next (refillFsk n s) else .fault .bufferBounds

/-- `Dio1RxLora()` (R194). -/
def dio1RxLora (s : State) : State :=
  emit .rxTimeout (goIdle (regWrite s.cfg.regmap.lrIrqFlags s.cfg.regmap.lrRxTimeout s))

/-- `DIO1_IRQ` (R193). -/
def execDio1Irq (s : State) : Result :=
  match s.state, s.modem with
  | .rxRunning, .fsk => dio1RxFsk s
  | .txRunning, .fsk => dio1TxFsk s
  | .rxRunning, .lora => .next (dio1RxLora s)
  | .txRunning, .lora => .next s
  | .idle, _ => .next s
  | .cad, _ => .next s

/-- The FSK reception timeout of DIO2 (R195): `rx_timeout` in both branches (D26). -/
def dio2RxFsk (s : State) : State :=
  emit .rxTimeout (fskRxEnd (applySeq s.cfg.chipSeq.fskRxAbortClear (clearFskPacketState s)))

/-- `Dio2Lora()` (R196). -/
def dio2Lora (s : State) : State :=
  if s.lora.freqHopOn then
    let r := s.cfg.regmap
    let ch := regRead r.lrHopChannel (regWrite r.lrIrqFlags r.lrFhssChangedChannel s)
    emit (.fhssChangeChannel (ch.1 &&& r.hopChannelMask)) ch.2
  else s

/-- `DIO2_IRQ` (R195). -/
def execDio2Irq (s : State) : Result :=
  match s.state, s.modem with
  | .rxRunning, .fsk => .next (dio2RxFsk s)
  | .rxRunning, .lora => .next (dio2Lora s)
  | .txRunning, .lora => .next (dio2Lora s)
  | .txRunning, .fsk => .next s
  | .idle, _ => .next s
  | .cad, _ => .next s

/-- The CAD result (R197); the transition to `Idle` only from `Cad` (90_conflicts.md C2). -/
def dio3Lora (s : State) : State :=
  let r := s.cfg.regmap
  let f := regRead r.lrIrqFlags s
  let detected := flagSet f.1 r.lrCadDetected
  let s1 := regWrite r.lrIrqFlags (if detected then r.lrCadDetected ||| r.lrCadDone else r.lrCadDone) f.2
  let s2 := match s.state with
    | .cad => goIdle s1
    | .idle => s1
    | .rxRunning => s1
    | .txRunning => s1
  emit (.cadDone detected) s2

/-- `DIO3_IRQ` (R197). -/
def execDio3Irq (s : State) : Result :=
  match s.modem with
  | .fsk => .next s
  | .lora => .next (dio3Lora s)

/-- `DIO4_IRQ` (R198). -/
def execDio4Irq (s : State) : Result :=
  match s.modem with
  | .fsk => .next (latchPreamble s)
  | .lora => .next s

/-- `DIO5_IRQ` (R201): "handler is a no-op placeholder". -/
def execDio5Irq (s : State) : Result := .next s

/-- The full recovery (R199). -/
def timeoutRecovery (s : State) : State :=
  let s1 := loadDefaultRegisters (setOperationMode .sleep (timerCancel s))
  let s2 := setPublicNetworkOp s.lora.publicNetwork (setModem .fsk s1)
  emit .txTimeout { s2 with state := .idle }

/-- `TIMEOUT_IRQ` (R199): nothing in any state but `TxRunning`. -/
def execTimeoutIrq (s : State) : Result :=
  match s.state with
  | .txRunning => .next (timeoutRecovery s)
  | .idle => .next s
  | .rxRunning => .next s
  | .cad => .next s

end Sys2Proof.Machine
end

