-- ==== Sys2Proof/Machine/Ral.lean ====
section
/-! DEFINITION. The register access layer (41_register_access.md): the six bus primitives as instructions. A read hands the
chip's answer to its caller. -/

namespace Sys2Proof.Machine

/-- `WRITE_REGISTER` (R111). -/
def execWriteRegister (addr : Addr) (v : Byte) (s : State) : Result := .next (regWrite addr v s)

/-- `WRITE_REGISTERS` (R112). -/
def execWriteRegisters (addr : Addr) (bytes : List Byte) (s : State) : Result := .next (regWriteBurst addr bytes s)

/-- `READ_REGISTER` (R113). -/
def execReadRegister (addr : Addr) (s : State) : Result :=
  .next (returns (.bytes [(regRead addr s).1]) (regRead addr s).2)

/-- `READ_REGISTERS` (R114). -/
def execReadRegisters (addr : Addr) (n : Nat) (s : State) : Result :=
  .next (returns (.bytes (regReadBurst addr n s).1) (regReadBurst addr n s).2)

/-- `WRITE_FIFO` (R115). -/
def execWriteFifo (bytes : List Byte) (s : State) : Result := .next (fifoWrite bytes s)

/-- `READ_FIFO` (R116). -/
def execReadFifo (n : Nat) (s : State) : Result := .next (returns (.bytes (fifoRead n s).1) (fifoRead n s).2)

end Sys2Proof.Machine
end

