-- ==== Sys2Proof/Machine/Dispatch.lean ====
section
/-! DEFINITION. One arm per instruction: each calls the instruction's own meaning. -/

namespace Sys2Proof.Machine

def exec (i : Instr) (s : State) : Host.Outcome State Fault Refusal :=
  match i with
  | .initRadio callbacks => Sys2Proof.Machine.execInitRadio callbacks s
  | .setChannel freqHz => Sys2Proof.Machine.execSetChannel freqHz s
  | .getStatus => Sys2Proof.Machine.execGetStatus s
  | .sleep => Sys2Proof.Machine.execSleep s
  | .standby => Sys2Proof.Machine.execStandby s
  | .setRxConfig args => Sys2Proof.Machine.execSetRxConfig args s
  | .setTxConfig args => Sys2Proof.Machine.execSetTxConfig args s
  | .send size buffer => Sys2Proof.Machine.execSend size buffer s
  | .receive => Sys2Proof.Machine.execReceive s
  | .startCad => Sys2Proof.Machine.execStartCad s
  | .setTxContinuousWave freq power duration => Sys2Proof.Machine.execSetTxContinuousWave freq power duration s
  | .setMaxPayloadLength modem max => Sys2Proof.Machine.execSetMaxPayloadLength modem max s
  | .setPublicNetwork enabled => Sys2Proof.Machine.execSetPublicNetwork enabled s
  | .performCarrierSense modem freq rssiThreshold maxDurationMs => Sys2Proof.Machine.execPerformCarrierSense modem freq rssiThreshold maxDurationMs s
  | .timeOnAir modem payloadLen => Sys2Proof.Machine.execTimeOnAir modem payloadLen s
  | .random => Sys2Proof.Machine.execRandom s
  | .checkRfFrequency freq => Sys2Proof.Machine.execCheckRfFrequency freq s
  | .lock => Sys2Proof.Machine.execLock s
  | .unlock => Sys2Proof.Machine.execUnlock s
  | .dio0Irq => Sys2Proof.Machine.execDio0Irq s
  | .dio1Irq => Sys2Proof.Machine.execDio1Irq s
  | .dio2Irq => Sys2Proof.Machine.execDio2Irq s
  | .dio3Irq => Sys2Proof.Machine.execDio3Irq s
  | .dio4Irq => Sys2Proof.Machine.execDio4Irq s
  | .dio5Irq => Sys2Proof.Machine.execDio5Irq s
  | .timeoutIrq => Sys2Proof.Machine.execTimeoutIrq s
  | .writeRegister addr value => Sys2Proof.Machine.execWriteRegister addr value s
  | .writeRegisters addr bytes => Sys2Proof.Machine.execWriteRegisters addr bytes s
  | .readRegister addr => Sys2Proof.Machine.execReadRegister addr s
  | .readRegisters addr count => Sys2Proof.Machine.execReadRegisters addr count s
  | .writeFifo bytes => Sys2Proof.Machine.execWriteFifo bytes s
  | .readFifo count => Sys2Proof.Machine.execReadFifo count s
  | .setOperationMode mode => Sys2Proof.Machine.execSetOperationMode mode s
  | .setModem kind => Sys2Proof.Machine.execSetModem kind s
  | .radioReset => Sys2Proof.Machine.execRadioReset s
  | .transmit timeoutMs => Sys2Proof.Machine.execTransmit timeoutMs s
  | .setAntennaSwitch mode => Sys2Proof.Machine.execSetAntennaSwitch mode s
  | .antennaLowPower => Sys2Proof.Machine.execAntennaLowPower s
  | .loadDefaultRegisters => Sys2Proof.Machine.execLoadDefaultRegisters s
  | .setRfTxPower power => Sys2Proof.Machine.execSetRfTxPower power s
  | .fskBandwidthCode bwHz => Sys2Proof.Machine.execFskBandwidthCode bwHz s
  | .txPowerEncode power path => Sys2Proof.Machine.execTxPowerEncode power path s
  | .fskTimeOnAir preambleLen syncWordLen addrFilterByte payloadLen crcBytes datarate => Sys2Proof.Machine.execFskTimeOnAir preambleLen syncWordLen addrFilterByte payloadLen crcBytes datarate s
  | .loraTimeOnAir bwHz sf cr preambleLen payloadLen crcOn fixedLen ldro => Sys2Proof.Machine.execLoraTimeOnAir bwHz sf cr preambleLen payloadLen crcOn fixedLen ldro s
  | .fskRxAbort => Sys2Proof.Machine.execFskRxAbort s

end Sys2Proof.Machine
end

