-- ==== Sys2Proof/Machine/Batch.lean ====
section
/-! DEFINITION. One scheduled step of an agent (10_state.md rule R10): a frame at `CMD`, an edge, the timer's expiry, the
worker's take and batch steps, the dispatch step of the direct model, and the model's own internal calls; and how an
opcode-table word is placed as the next step. -/

namespace Sys2Proof.Machine

/-- The handlers of a batch, one after another, "each handler sees `S` as the handlers before it in the same batch left it"
(R245). -/
def runHandlers : List Instr → State → Result
  | [], s => .next s
  | i :: rest, s => andThen (exec i s) (runHandlers rest)

/-- The worker's batch step (R245): the handlers in the fixed order of R91 and R252, then the worker waits again. Where the
step is not enabled the scheduler's choice of it changes nothing (log entry 3). -/
def runBatch (s : State) : Result :=
  match heldBatch s with
  | some b => andThen (runHandlers (decodeBatch b) s) (fun t => .next (endBatch t))
  | none => .next s

/-- The dispatch step of the direct model (R250): the take and the batch as one; `S.worker` is not touched. -/
def dispatchBatch (s : State) : Result :=
  match directBatch s with
  | some b => runHandlers (decodeBatch b) { s with pending := 0 }
  | none => .next s

/-- The dispatch step of the direct model with the timer's expiry step between its take and its handlers: the expiry "is not
bound by the lock" (R247), and its bit belongs to the next batch (R8, R250; log entry 14). -/
def dispatchBatchExpiring (s : State) : Result :=
  match directBatch s with
  | some b => runHandlers (decodeBatch b) (expire { s with pending := 0 })
  | none => .next s

/-- A command frame at `CMD` (R232): refused with the response `Refused` and no other effect (R94), or run. -/
def runFrame (f : List Byte) (s : State) : Result :=
  match decodeCommand f with
  | .ok i => exec i s
  | .rejected _ => .next (raiseError .refused s)

/-- The block's own call of an operation of format B or U on its own (the model's input, log entry 4). -/
def runCall (d : Decoded) (s : State) : Result :=
  match d with
  | .ok i => exec i s
  | .rejected _ => .refused .noSuchCall

/-- The step of the agent the schedule names (R10). -/
def runStimulus (x : Stimulus) (s : State) : Result :=
  match x with
  | .frame f => runFrame f s
  | .edge line => .next (latchEdge line s)
  | .expire => .next (expire s)
  | .wake => .next (wake s)
  | .run => runBatch s
  | .dispatch => dispatchBatch s
  | .dispatchExpiring => dispatchBatchExpiring s
  | .bus f => runCall (decodeBus f) s
  | .micro f => runCall (decodeMicro f) s

/-- The state whose next step is one handler run as a batch of its own: the batch is held (or pending, in the direct model)
and the lock is free. -/
def placeEvent (f : List Byte) (s : State) : State :=
  let b : EventVec := (u8At f 0).setWidth 7
  if s.cfg.workerPresent then { s with worker := .holding b, lock := 0, inputs := .run :: s.inputs }
  else { s with pending := b, lock := 0, inputs := .dispatch :: s.inputs }

/-- The state whose next step runs the instruction of a frame of a format. -/
def placeFrame (p : Format) (f : List Byte) (s : State) : State :=
  match p with
  | .command => { s with inputs := .frame f :: s.inputs }
  | .event => placeEvent f s
  | .bus => { s with inputs := .bus f :: s.inputs }
  | .micro => { s with inputs := .micro f :: s.inputs }

/-- The place of an opcode-table word (log entries 2 and 5). -/
def placeWord (nbits w : Nat) (s : State) : State :=
  placeFrame (tableFormat (wordBytes ((nbits + 7) / 8) w)) (tableFrame nbits w) s

end Sys2Proof.Machine
end

