-- ==== Sys2Proof/Machine/Step.lean ====
section
/-! DEFINITION. One step of the machine: the next scheduled step of an agent (R10). The block has no program counter and
fetches nothing (R41); what stands in the place of a fetch is the environment's script `State.inputs` (log entry 2). -/

namespace Sys2Proof.Machine

/-- One step. With nothing scheduled the block waits (R244, R281): nothing changes. -/
def step (s : State) : Host.Outcome State Fault Refusal :=
  match s.inputs with
  | [] => .next s
  | x :: rest => runStimulus x { s with inputs := rest }

/-- `s` with the instruction of an opcode-table word as its very next step. -/
def State.withFetchWord (s : State) (nbits w : Nat) : State := placeWord nbits w s

end Sys2Proof.Machine
end

