-- ==== Sys2Proof/Safety.lean ====
section
/-! DEFINITION. The words the statements are made of: what the bus, the pins and the callbacks show of an operation, written
down from the rules as event lists; what a refused frame is (R94); and what a good state of the block is. -/

namespace Sys2Proof.Machine

/-! ### What an operation shows (R34) -/

/-- `s` after the chip has answered `n` bytes and these events have been appended to the history; nothing else differs. -/
def State.after (s : State) (n : Nat) (events : List Event) : State :=
  { s with answers := s.answers.drop n, reads := s.reads + n, hist := s.hist ++ events }

/-- A read of one register. -/
def readOf (addr : Addr) (v : Byte) : Event := .busRead addr [v]

/-- A write of one register. -/
def writeOf (addr : Addr) (v : Byte) : Event := .busWrite addr [v]

/-- `RegSet(addr, and, or)` against the answer `v` (R7). -/
def setOf (addr : Addr) (andMask orMask v : Byte) : List Event :=
  [readOf addr v, writeOf addr ((v &&& andMask) ||| orMask)]

/-- The bytes the chip answers to a chip write sequence: one for each `M` step (R98). -/
def seqReads : List SeqStep → Nat
  | [] => 0
  | .w _ _ :: rest => seqReads rest
  | .m _ _ _ :: rest => seqReads rest + 1

/-- The transactions of a chip write sequence (R98), the first answer being `answers k`. -/
def seqEvents (answers : Nat → Byte) : Nat → List SeqStep → List Event
  | _, [] => []
  | k, .w addr v :: rest => writeOf addr v :: seqEvents answers k rest
  | k, .m addr andMask orMask :: rest => setOf addr andMask orMask (answers k) ++ seqEvents answers (k + 1) rest

/-- The pin actions of a list of levels: an `NC` pin is skipped (R29). -/
def pinEvents (w : Wiring) (l : List (Pin × Bool)) : List Event :=
  (l.filter (fun x => w.connected x.1)).map (fun x => .gpioSet x.1 x.2)

/-- The pin levels after a list of levels: an `NC` pin keeps its entry (R29). -/
def pinsDriven (w : Wiring) (l : List (Pin × Bool)) (g : Gpio) : Gpio :=
  (l.filter (fun x => w.connected x.1)).foldl (fun g x => gpioPut g x.1 x.2) g

/-- Whether `SET_ANTENNA_SWITCH` reads `REG_PACONFIG`: scheme A in the TX class only (R143). -/
def readsBoost (c : Config) (mode : OpMode) : Bool := decide (scheme c.wiring = .a ∧ modeClass mode = .tx)

/-- The bytes the chip answers to `SET_ANTENNA_SWITCH`. -/
def switchReads (c : Config) (mode : OpMode) : Nat := if readsBoost c mode then 1 else 0

/-- The levels `SET_ANTENNA_SWITCH` drives (R143, R144); `v` is the answer to its read, if it makes one. -/
def switchLevels (c : Config) (mode : OpMode) (v : Byte) : List (Pin × Bool) :=
  switchPins c.wiring (scheme c.wiring) (modeClass mode) (readsBoost c mode && flagSet v c.regmap.paSelect)

/-- What `SET_ANTENNA_SWITCH` shows (R143). -/
def switchEvents (c : Config) (mode : OpMode) (v : Byte) : List Event :=
  (if readsBoost c mode then [readOf c.regmap.paConfig v] else []) ++ pinEvents c.wiring (switchLevels c mode v)

/-- The bytes the chip answers to `SET_OPERATION_MODE` (R140). -/
def modeReads (c : Config) (mode : OpMode) : Nat := switchReads c mode + 1

/-- The levels `SET_OPERATION_MODE` drives before its mode write (R140). -/
def modeLevels (c : Config) (mode : OpMode) (v : Byte) : List (Pin × Bool) :=
  if mode = .sleep then lowPowerPins c.wiring else switchLevels c mode v

/-- What `SET_OPERATION_MODE` shows (R140), the first answer being `answers k`: the pins, then the read and the write of
`REG_OPMODE`. -/
def modeEvents (c : Config) (answers : Nat → Byte) (k : Nat) (mode : OpMode) : List Event :=
  (if mode = .sleep then pinEvents c.wiring (lowPowerPins c.wiring) else switchEvents c mode (answers k))
    ++ setOf c.regmap.opmode c.regmap.opmodeModeMask (modeValue c.regmap mode) (answers (k + switchReads c mode))

/-- The bytes the chip answers to `SET_MODEM` (R146): one where the chip already is `kind`, three and those of the DIO
mapping otherwise. -/
def modemReads (c : Config) (kind : ModemKind) (v : Byte) : Nat :=
  if modemOfOpmode c.regmap v = kind then 1 else 3 + seqReads (diomapDefault c.chipSeq kind)

/-- What `SET_MODEM` shows (R146), the first answer being `answers k`. -/
def modemEvents (c : Config) (answers : Nat → Byte) (k : Nat) (kind : ModemKind) : List Event :=
  readOf c.regmap.opmode (answers k) ::
    if modemOfOpmode c.regmap (answers k) = kind then []
    else .timerCancel :: modeEvents c answers (k + 1) .sleep
      ++ setOf c.regmap.opmode (~~~c.regmap.opmodeLrm) (lrmBits c.regmap kind) (answers (k + 2))
      ++ seqEvents answers (k + 3) (diomapDefault c.chipSeq kind)

/-- What `SET_MODEM` leaves (R146): the chip's answer decides whether anything but the cache changes. -/
def State.withModem (s : State) (kind : ModemKind) : State :=
  let t := s.after (modemReads s.cfg kind (answer s 0)) (modemEvents s.cfg (answer s) 0 kind)
  if modemOfOpmode s.cfg.regmap (answer s 0) = kind then { t with modem := kind }
  else { t with modem := kind, state := .idle, timer := .disarmed, gpio := pinsDriven s.cfg.wiring (lowPowerPins s.cfg.wiring) s.gpio }

/-- What `LOAD_DEFAULT_REGISTERS` leaves (R211): for each entry its modem, then its write. -/
def State.withDefaults (s : State) : State :=
  s.cfg.chipSeq.initRegs.foldl (fun u e => (u.withModem e.kind).after 0 [writeOf e.addr e.value]) s

/-- What `SET_RF_TX_POWER` shows (R124), the first answer being `answers k`: two reads, then two writes. -/
def powerEvents (c : Config) (answers : Nat → Byte) (k : Nat) (power : Byte) : List Event :=
  let e := txPowerEncode power.toInt c.paSelect
  [readOf c.regmap.paConfig (answers k), readOf c.regmap.paDac (answers (k + 1)),
   writeOf c.regmap.paConfig (paConfigValue c.regmap c.paSelect (answers k) e.field),
   writeOf c.regmap.paDac (paDacValue c.regmap c.paSelect (answers (k + 1)) e.boost20)]

/-- A FIFO write: no bytes, no transaction (R57). -/
def fifoWriteOf (l : List Byte) : List Event := if l.length = 0 then [] else [.busWrite regFifo l]

/-- A FIFO read: no bytes, no transaction (R57). -/
def fifoReadOf (l : List Byte) : List Event := if l.length = 0 then [] else [.busRead regFifo l]

/-- The `n` bytes the chip answers from the `k`-th answer on. -/
def answersFrom (s : State) (k n : Nat) : List Byte := (List.range n).map (fun j => answer s (k + j))

/-- Whether a value of `REG_OPMODE` says the chip sleeps (R162). -/
def sleeps (c : Config) (v : Byte) : Bool := decide (v &&& ~~~c.regmap.opmodeModeMask = c.regmap.modeSleep)

/-- The bytes the chip answers to `WakeIfSleep` (R162), the first one being `v`. -/
def wakeReads (c : Config) (v : Byte) : Nat := if sleeps c v then 2 else 1

/-- What `WakeIfSleep` shows (R162), the first answer being `answers k`. -/
def wakeEvents (c : Config) (answers : Nat → Byte) (k : Nat) : List Event :=
  readOf c.regmap.opmode (answers k) ::
    if sleeps c (answers k) then .timerCancel :: modeEvents c answers (k + 1) .standby ++ [.wait c.wakeMs] else []

/-- The pin levels `WakeIfSleep` leaves (R162, R150). -/
def wakeLevels (c : Config) (answers : Nat → Byte) (k : Nat) (g : Gpio) : Gpio :=
  if sleeps c (answers k) then pinsDriven c.wiring (modeLevels c .standby (answers (k + 1))) g else g

/-- The bytes the chip answers to `TRANSMIT` before its mode write (R164): its mapping, and for FSK the threshold. -/
def transmitReads (s : State) : Nat :=
  seqReads (txMap s.cfg.chipSeq s.modem s.lora.freqHopOn) + (if s.modem = .fsk then 1 else 0)

/-- What `TRANSMIT` shows (R164), the first answer being `answer s k`. -/
def transmitEvents (s : State) (k : Nat) (ms : Word) : List Event :=
  let n := seqReads (txMap s.cfg.chipSeq s.modem s.lora.freqHopOn)
  seqEvents (answer s) k (txMap s.cfg.chipSeq s.modem s.lora.freqHopOn)
    ++ (if s.modem = .fsk then [readOf s.cfg.regmap.fifoThresh (answer s (k + n))] else [])
    ++ .timerStart ms :: modeEvents s.cfg (answer s) (k + transmitReads s) .transmitter

/-- The FSK threshold `TRANSMIT` captures (R164), the first answer being `answer s k`; for LoRa it is untouched. -/
def transmitThresh (s : State) (k : Nat) : Byte :=
  if s.modem = .fsk then
    answer s (k + seqReads (txMap s.cfg.chipSeq s.modem s.lora.freqHopOn)) &&& s.cfg.regmap.fifoThreshMask
  else s.fskPh.fifoThresh

/-- The pin levels `TRANSMIT` leaves (R164, R143), the first answer being `answer s k`. -/
def transmitLevels (s : State) (k : Nat) (g : Gpio) : Gpio :=
  pinsDriven s.cfg.wiring (modeLevels s.cfg .transmitter (answer s (k + transmitReads s))) g

/-- A response on `RSP` (R89). -/
def okResponse (result : List Byte) : Event := .response (0x00 :: result)

/-- The callback message, if the host supplied that callback (R258). -/
def callbackEvents (cbSet : EventVec) (c : Callback) : List Event :=
  if cbSet.getLsbD (callbackNumber c) then [.callback (callbackMessage c)] else []

/-- Whether an event is a callback message. -/
def Event.isCallback : Event → Bool
  | .callback _ => true
  | _ => false

/-- The bytes the chip answers to the end of an FSK reception (R183, R185, R195). -/
def fskEndReads (s : State) : Nat := if s.fsk.rxContinuous then 1 else 0

/-- What the end of an FSK reception shows, the first answer being `answers k` (R183, R185, R195). -/
def fskEndEvents (s : State) (k : Nat) : List Event :=
  if s.fsk.rxContinuous then setOf s.cfg.regmap.rxConfig 0xFF s.cfg.regmap.rxConfigRestartNoPll (answer s k)
  else [.timerCancel]

/-- `Idle` with the timer disarmed for a single-shot receiver, nothing for a continuous one (R183, R185, R186, R195). -/
def State.received (s : State) (continuous : Bool) : State :=
  if continuous then s else { s with state := .idle, timer := .disarmed }

/-- What `FSK_RX_ABORT` shows (R183), the first answer being `answer s k`. -/
def abortEvents (s : State) (k : Nat) : List Event :=
  seqEvents (answer s) k s.cfg.chipSeq.fskRxAbortClear
    ++ fskEndEvents s (k + seqReads s.cfg.chipSeq.fskRxAbortClear) ++ callbackEvents s.cbSet .rxError

/-- The bytes the chip answers to `FSK_RX_ABORT` (R183). -/
def abortReads (s : State) : Nat := seqReads s.cfg.chipSeq.fskRxAbortClear + fskEndReads s

/-- The packet-handler record with the four fields `ClearFskPacketState` clears (R181). -/
def clearedPacket (p : FskPacket) : FskPacket :=
  { p with preambleDetected := false, syncWordDetected := false, nbBytes := 0, size := 0 }

/-- What `FSK_RX_ABORT` leaves (R183), the first answer being `answer s k`, after the events `before`. -/
def State.aborted (s : State) (k : Nat) (before : List Event) : State :=
  { (s.after (k + abortReads s) (before ++ abortEvents s k)).received s.fsk.rxContinuous with
    fskPh := clearedPacket s.fskPh }

/-- No length is known yet for the packet (R182). -/
def lengthUnknown (s : State) : Bool := decide (s.fskPh.size = 0 ∧ s.fskPh.nbBytes = 0)

/-- The read that learns the length (R182): the prefix byte, or the fixed-length register. -/
def lengthEvents (s : State) (v : Byte) : List Event :=
  if s.fsk.fixLen then [readOf s.cfg.regmap.payloadLength v] else [.busRead regFifo [v]]

/-- What `mapNext` does to a next state; a stop stays as it is. -/
def mapNext (f : State → State) : Result → Result
  | .next s => .next (f s)
  | .fault r => .fault r
  | .refused r => .refused r

/-- `s` with other values in the three fields that the latch, the timer, the worker and the schedule change between
instructions. -/
def State.relatch (s : State) (pending : EventVec) (worker : Worker) (inputs : List Stimulus) : State :=
  { s with pending := pending, worker := worker, inputs := inputs }

/-! ### Frames (R94) -/

/-- The frame length of R87, for the opcode in byte 0; `none` for a byte that is no opcode. -/
def commandLength (f : List Byte) : Option Nat :=
  match (u8At f 0).toNat with
  | 0x00 => some 2
  | 0x01 => some 5
  | 0x02 => some 1
  | 0x03 => some 1
  | 0x04 => some 1
  | 0x05 => some 26
  | 0x06 => some 27
  | 0x07 => some (2 + (u8At f 1).toNat)
  | 0x08 => some 1
  | 0x09 => some 1
  | 0x0A => some 8
  | 0x0B => some 3
  | 0x0C => some 2
  | 0x0D => some 12
  | 0x0E => some 3
  | 0x0F => some 1
  | 0x10 => some 5
  | 0x11 => some 1
  | 0x12 => some 1
  | _ => none

/-- The opcodes with a `modem` operand (R87). -/
def hasModem (f : List Byte) : Bool := [0x05, 0x06, 0x0B, 0x0D, 0x0E].contains (u8At f 0).toNat

/-- "A command frame is refused when" (R94): no opcode, the wrong length, a `modem` operand that is not 0 or 1, or a `SEND`
of more bytes than the buffer has. -/
def refusedFrame (maxSize : Nat) (f : List Byte) : Bool :=
  decide (f = []) || decide (commandLength f ≠ some f.length) || (hasModem f && decide (1 < (u8At f 1).toNat))
    || (u8At f 0 == 0x07 && decide (maxSize < (u8At f 1).toNat))

/-- The offset of a `bool` operand in an instruction's frame (R87): the one kind of byte that many values of stand for one
operand (R86). -/
def boolOffset : Instr → Nat → Bool
  | .setRxConfig _, k => [19, 21, 22, 24, 25].contains k
  | .setTxConfig _, k => [18, 19, 20, 22].contains k
  | .setPublicNetwork _, k => k == 1
  | _, _ => false

/-! ### Good states -/

/-- What every run from a reset keeps: the parameters in their ranges, the buffer in its form and bounds (R24, R53), the
byte counts of a packet in order (R21, R130), the timer disarmed in `Idle` (R20), the narrow readings in their ranges
(R18, R130), the flag no rule sets (R18), the two optional lines (R145), the reset pin released between instructions (R148)
and a worker that waits where there is none (R250). -/
structure Inv (s : State) : Prop where
  cfg_wf : s.cfg.wellFormed = true
  buf_wf : Memory.wf s.dataBuf = true
  buf_below : Memory.below s.cfg.maxDataBufferSize s.dataBuf = true
  moved_le_size : s.fskPh.nbBytes.toNat ≤ s.fskPh.size.toNat
  size_le_buffer : s.fskPh.size.toNat ≤ s.cfg.maxDataBufferSize
  size_is_byte : s.fskPh.size.toNat ≤ 255
  lora_size_le_buffer : s.loraPh.size.toNat ≤ s.cfg.maxDataBufferSize
  chunk_le : s.fskPh.chunkSize.toNat ≤ max s.cfg.fskSingleWriteMax s.cfg.fifoBurst
  thresh_masked : s.fskPh.fifoThresh &&& ~~~s.cfg.regmap.fifoThreshMask = 0
  gain_3_bits : s.fskPh.rxGain.toNat < 8
  fsk_rssi : -127 ≤ s.fskPh.rssiValue.toInt ∧ s.fskPh.rssiValue.toInt ≤ 0
  snr : -32 ≤ s.loraPh.snrValue.toInt ∧ s.loraPh.snrValue.toInt ≤ 31
  no_sync : s.fskPh.syncWordDetected = false
  idle_disarmed : s.state = .idle → s.timer = .disarmed
  pa_low : s.gpio.pwrAmpCtl = false
  tcxo_high : s.gpio.tcxo = true
  released : s.rst = .released
  no_worker : s.cfg.workerPresent = false → s.worker = .waiting

/-- The timeout event is on its way: latched in `S.pending`, or in the batch the worker holds. -/
def timeoutComing (s : State) : Prop :=
  s.pending.getLsbD 6 = true ∨ ∃ b, s.worker = .holding b ∧ b.getLsbD 6 = true

/-- The first half of the invariant of R20, as a property every step keeps: while `TxRunning`, the timer is armed or its
expiry is still to be served. -/
def TxWatched (s : State) : Prop := s.state = .txRunning → s.timer ≠ .disarmed ∨ timeoutComing s

/-- The event of bit `i` is still to be served. -/
def eventComing (s : State) (i : Nat) : Prop :=
  s.pending.getLsbD i = true ∨ ∃ b, s.worker = .holding b ∧ b.getLsbD i = true

/-- The step an agent takes is one of the block's own: a frame, an edge, an expiry, a take, a batch, a dispatch (R10), not the
model's internal-call input (log entry 4). -/
def Stimulus.isAgent : Stimulus → Bool
  | .bus _ => false
  | .micro _ => false
  | _ => true

end Sys2Proof.Machine
end

