-- ==== Sys2Proof/Certificates/Slice0/Obligations.lean ====
section
/-! DEFINITION. The statements for the provers, in the order of the spec's files: encodings, the agents' steps, invariants,
then one statement or more for every instruction, each with what it leaves unchanged: a next state is written as `s` with
the changed fields named. -/

open Sys2Proof Sys2Proof.Machine

/-! ### Encodings (30_encoding.md) -/

/-- Decoding the encoding of a well-formed instruction, in its own format, gives the instruction back. The operand packing
of format U is the model's own (log entry 4). -/
def Obligations.DecodeEncode : Prop :=
  ∀ i : Instr, i.wellFormed = true → decode i.format (encode i) = .ok i

/-- No byte of a command frame is dropped: two frames that decode to one instruction have one length and agree in every byte,
but for the byte of a `bool` operand, where any two values other than 0 say the same (R86). -/
def Obligations.CommandFramesDecodeApart : Prop :=
  ∀ (f g : List Byte) (i : Instr), decodeCommand f = .ok i → decodeCommand g = .ok i →
    i.format = .command ∧ i.wellFormed = true ∧ f.length = g.length ∧
      ∀ k, u8At f k = u8At g k ∨ (boolOffset i k = true ∧ u8At f k ≠ 0 ∧ u8At g k ≠ 0)

/-- R94: a refused frame is answered `Refused`, changes no state, performs no bus transaction and emits no callback; every
other frame is one of the 19 commands, and runs. -/
def Obligations.RefusedFrames : Prop :=
  ∀ (f : List Byte) (s : State),
    (refusedFrame s.cfg.maxDataBufferSize f = true → runFrame f s = .next (s.after 0 [.response [0x02]])) ∧
    (refusedFrame s.cfg.maxDataBufferSize f = false →
      ∃ i, decodeCommand f = .ok i ∧ i.format = .command ∧ runFrame f s = exec i s)

/-- Words written out from the spec's own examples and tables decode to the instructions they stand for (R87, R91, R92). -/
def Obligations.DecodedWords : Prop :=
  decodeCommand [0x01, 0xA0, 0x27, 0xBE, 0x33] = .ok (.setChannel 868100000) ∧
  decodeCommand [0x07, 0x03, 0x01, 0x02, 0x03] = .ok (.send 3 [1, 2, 3]) ∧
  decodeCommand [0x0A, 0xA0, 0x27, 0xBE, 0x33, 0x0E, 0x05, 0x00] = .ok (.setTxContinuousWave 868100000 14 5) ∧
  decodeEvent [0x40] = .ok .timeoutIrq ∧
  decodeBus [0x81, 0x81] = .ok (.writeRegister 0x01 0x81) ∧
  decodeBus [0x86, 0xD9, 0x06, 0x66] = .ok (.writeRegisters 0x06 [0xD9, 0x06, 0x66]) ∧
  decodeBus [0x1B, 0x00, 0x00] = .ok (.readRegisters 0x1B 2) ∧
  decodeBus [0x80, 0x03] = .ok (.writeFifo [0x03])

/-- R91: a batch is the handlers of its set bits, lower bit first. -/
def Obligations.BatchOrder : Prop :=
  ∀ b : EventVec, decodeBatch b =
    (if b.getLsbD 0 then [.dio0Irq] else []) ++ (if b.getLsbD 1 then [.dio1Irq] else []) ++
    (if b.getLsbD 2 then [.dio2Irq] else []) ++ (if b.getLsbD 3 then [.dio3Irq] else []) ++
    (if b.getLsbD 4 then [.dio4Irq] else []) ++ (if b.getLsbD 5 then [.dio5Irq] else []) ++
    (if b.getLsbD 6 then [.timeoutIrq] else [])

/-- The FIFO primitives are the register primitives at address 0 (R97). That a burst of one byte is the single-register
primitive, so that each spelling has the same effect and a bus frame decodes to one spelling, is the model's inference from
R92 and R97 (log entry 17, DEDUCED). -/
def Obligations.BusAliases : Prop :=
  (∀ (bytes : List Byte) (s : State), exec (.writeFifo bytes) s = exec (.writeRegisters 0 bytes) s) ∧
  (∀ (n : Nat) (s : State), exec (.readFifo n) s = exec (.readRegisters 0 n) s) ∧
  (∀ (addr : Addr) (v : Byte) (s : State), exec (.writeRegister addr v) s = exec (.writeRegisters addr [v]) s) ∧
  (∀ (addr : Addr) (s : State), exec (.readRegister addr) s = exec (.readRegisters addr 1) s) ∧
  (∀ (i : Instr) (s : State), exec i.canonical s = exec i s) ∧
  (∀ i : Instr, i.format = .bus → encode i ≠ [] → decodeBus (encode i) = .ok i.canonical)

/-! ### The agents' steps (10_state.md rule R10, 60_exceptions.md) -/

/-- A step runs the decoded instruction: the frame of a well-formed instruction placed next, in its format, is executed on
the state as it stands. A handler runs as a batch of its own, after which the worker waits (or, in the direct model, with the
pending register taken). The schedule that stands for a program is the model's choice (log entry 2), and so are the inputs
that run a bus primitive or a micro-operation alone, which the second and the third clause are about (log entry 4), and the
placing of an event as a batch of its own, which the last two are about (log entry 2). -/
def Obligations.StepRunsInstruction : Prop :=
  (∀ (i : Instr) (f : List Byte) (rest : List Stimulus) (s : State), decodeCommand f = .ok i →
    step { s with inputs := .frame f :: rest } = exec i { s with inputs := rest }) ∧
  (∀ (i : Instr) (f : List Byte) (rest : List Stimulus) (s : State), decodeBus f = .ok i →
    step { s with inputs := .bus f :: rest } = exec i { s with inputs := rest }) ∧
  (∀ (i : Instr) (f : List Byte) (rest : List Stimulus) (s : State), decodeMicro f = .ok i →
    step { s with inputs := .micro f :: rest } = exec i { s with inputs := rest }) ∧
  (∀ (i : Instr) (f : List Byte) (s t : State), decodeEvent f = .ok i → s.cfg.workerPresent = true → s.lock = 0 →
    exec i { s with worker := .holding ((u8At f 0).setWidth 7) } = .next t →
    step (placeFrame .event f s) = .next { t with worker := .waiting }) ∧
  (∀ (i : Instr) (f : List Byte) (s t : State), decodeEvent f = .ok i → s.cfg.workerPresent = false → s.lock = 0 →
    exec i { s with pending := 0 } = .next t → step (placeFrame .event f s) = .next t)

/-- The model's choice (log entries 2 and 3): with nothing scheduled a step changes nothing, and a scheduled step that is not
enabled is skipped. When a step is enabled is the spec's (R244, R245, R247, R250). -/
def Obligations.DisabledSteps : Prop :=
  ∀ (s : State) (rest : List Stimulus),
    step { s with inputs := [] } = .next { s with inputs := [] } ∧
    (s.timer = .disarmed → step { s with inputs := .expire :: rest } = .next { s with inputs := rest }) ∧
    (s.cfg.workerPresent = false ∨ s.worker ≠ .waiting ∨ s.pending = 0 →
      step { s with inputs := .wake :: rest } = .next { s with inputs := rest }) ∧
    (s.cfg.workerPresent = false ∨ s.worker = .waiting ∨ s.lock ≠ 0 →
      step { s with inputs := .run :: rest } = .next { s with inputs := rest }) ∧
    (s.cfg.workerPresent = true ∨ s.pending = 0 ∨ s.lock ≠ 0 →
      step { s with inputs := .dispatch :: rest } = .next { s with inputs := rest })

/-- R246: a rising edge on line `i` sets bit `i` of `S.pending` while the latch is armed, and is lost while it is not. -/
def Obligations.EdgeLatch : Prop :=
  ∀ (s : State) (rest : List Stimulus) (line : Fin 6),
    step { s with inputs := .edge line :: rest } = .next { s with
      inputs := rest
      pending := if s.irqArmed then s.pending ||| ((1 : EventVec) <<< line.val) else s.pending }

/-- R247: the expiry sets bit 6 and disarms the timer, whatever `S.irq_armed` and `S.lock` are. -/
def Obligations.TimerExpiry : Prop :=
  ∀ (s : State) (rest : List Stimulus) (ms : Word), s.timer = .armed ms →
    step { s with inputs := .expire :: rest } = .next { s with
      inputs := rest, pending := s.pending ||| 0x40, timer := .disarmed }

/-- R244: the take reads and clears the pending register and holds what it read, whatever `S.lock` is. -/
def Obligations.WorkerTake : Prop :=
  ∀ (s : State) (rest : List Stimulus), s.cfg.workerPresent = true → s.worker = .waiting → s.pending ≠ 0 →
    step { s with inputs := .wake :: rest } = .next { s with
      inputs := rest, pending := 0, worker := .holding s.pending }

/-- R245: the batch step runs the handlers of the held batch, each on the state the one before it left, and the worker waits
again. -/
def Obligations.WorkerBatch : Prop :=
  ∀ (s : State) (rest : List Stimulus) (b : EventVec),
    s.cfg.workerPresent = true → s.worker = .holding b → s.lock = 0 →
    step { s with inputs := .run :: rest } =
      mapNext (fun t => { t with worker := .waiting })
        ((decodeBatch b).foldl (fun o i => andThen o (exec i)) (.next { s with inputs := rest }))

/-- R250: without a worker the dispatch step is the take and the batch in one; `S.worker` is not touched. The second clause
(an expiry between the take and the handlers) is the model's reading of R8 and R247 (log entry 14). -/
def Obligations.DirectDispatch : Prop :=
  ∀ (s : State) (rest : List Stimulus), s.cfg.workerPresent = false → s.pending ≠ 0 → s.lock = 0 →
    step { s with inputs := .dispatch :: rest } =
      (decodeBatch s.pending).foldl (fun o i => andThen o (exec i)) (.next { s with inputs := rest, pending := 0 }) ∧
    (∀ ms, s.timer = .armed ms → step { s with inputs := .dispatchExpiring :: rest } =
      (decodeBatch s.pending).foldl (fun o i => andThen o (exec i))
        (.next { s with inputs := rest, pending := 0x40, timer := .disarmed }))

/-- R249: no event is lost other than by coalescing or by an unarmed latch: an event that is pending or held stays so until
the step that runs its batch. -/
def Obligations.NoEventLost : Prop :=
  ∀ (s t : State) (i : Nat), step s = .next t →
    (s.pending.getLsbD i = true →
      eventComing t i ∨ s.inputs.head? = some .dispatch ∨ s.inputs.head? = some .dispatchExpiring) ∧
    (∀ b, s.worker = .holding b → b.getLsbD i = true → eventComing t i ∨ s.inputs.head? = some .run)

/-- R8, R253: no instruction reads or writes the pending register, the worker's phase or the schedule (`S.pending`, `S.worker`
and the model's `inputs`, log entry 2): with other values there it computes the same next state, and leaves them as they
are. -/
def Obligations.EdgesDoNotInterfere : Prop :=
  ∀ (i : Instr) (s : State) (p : EventVec) (w : Worker) (x : List Stimulus),
    exec i (s.relatch p w x) = mapNext (fun t => t.relatch p w x) (exec i s)

/-- R34: no rule reads the history: an instruction on a state with a longer past does what it does without it. -/
def Obligations.HistoryUnread : Prop :=
  ∀ (i : Instr) (s : State) (past : List Event),
    exec i { s with hist := past ++ s.hist } = mapNext (fun t => { t with hist := past ++ t.hist }) (exec i s)

/-- R258: "An unset callback changes nothing else": with another callback set an instruction other than `INIT_RADIO` leaves
the same state, and the same history but for the callback messages. -/
def Obligations.CallbackSetUnread : Prop :=
  ∀ (i : Instr) (s t : State) (c : EventVec), (∀ k, i ≠ .initRadio k) → exec i s = .next t →
    ∃ h, exec i { s with cbSet := c } = .next { t with cbSet := c, hist := h } ∧
      h.filter (fun e => !e.isCallback) = t.hist.filter (fun e => !e.isCallback)

/-! ### Reset and invariants (10_state.md, 70_reset_and_hazards.md) -/

/-- R44: every field of the spec's state after the block's power-on reset, under every parameter record. -/
def Obligations.ResetValues : Prop :=
  ∀ c : Config, let s := State.resetWith c
    s.state = .idle ∧ s.modem = .fsk ∧ s.channel = 0 ∧
    s.fsk = ⟨0, 0, 0, 0, 0, 0, false, 0, false, false, 0, false, false, 0, 0⟩ ∧
    s.lora = ⟨0, 0, 0, 0, false, 0, false, 0, false, false, 0, false, false, 0, 0, false⟩ ∧
    s.fskPh = ⟨false, false, 0, 0, 0, 0, 0, 0, 0⟩ ∧ s.loraPh = ⟨0, 0, 0⟩ ∧
    (∀ a, Memory.read s.dataBuf a = 0) ∧ s.pending = 0 ∧ s.worker = .waiting ∧ s.lock = 0 ∧ s.timer = .disarmed ∧
    s.irqArmed = false ∧ s.cbSet = 0 ∧ s.rst = .released ∧
    s.gpio = ⟨false, false, false, false, false, false, true⟩ ∧
    State.reset = State.resetWith defaultConfig

/-- The two invariants hold at reset, under every well-formed parameter record and under the default one. -/
def Obligations.ResetIsGood : Prop :=
  (∀ c : Config, c.wellFormed = true → Inv (State.resetWith c) ∧ TxWatched (State.resetWith c)) ∧
  Inv State.reset ∧ TxWatched State.reset

/-- Every step keeps the invariant, from every state that has it: the byte counts of a packet (R21), the buffer's form and
bounds (R53), the disarmed timer of `Idle` (R20), the ranges of the narrow fields (R130), the two optional lines (R145). -/
def Obligations.StepKeepsInv : Prop :=
  ∀ s t : State, Inv s → step s = .next t → Inv t

/-- R254, R266: from every good state each step the spec gives an agent answers a next state: no handler faults, and the
block is always able to accept a command and latch an event. -/
def Obligations.BlockNeverStops : Prop :=
  ∀ s : State, Inv s → (∀ x rest, s.inputs = x :: rest → x.isAgent = true) → ∃ t, step s = .next t

/-- R20, as a property of runs: a step keeps "while `TxRunning`, the timer is armed or its expiry is still to be served". -/
def Obligations.TxStaysWatched : Prop :=
  ∀ s t : State, TxWatched s → step s = .next t → TxWatched t

/-- R153: "No rule writes `Idle` without a `TimerCancel()` before it in the same rule": an instruction that enters `Idle`
leaves the timer disarmed, and shows the cancel. -/
def Obligations.IdleCancelsTimer : Prop :=
  ∀ (i : Instr) (s t : State), exec i s = .next t → s.state ≠ .idle → t.state = .idle →
    t.timer = .disarmed ∧ ∃ ev, t.hist = s.hist ++ ev ∧ Event.timerCancel ∈ ev

/-- The instructions the list of R152 does not name leave `S.state` as it is: the lock, status, channel, frequency, airtime
and calculator instructions, the bus primitives, the bare mode write and its pins, the power write, `DIO4`, `DIO5`; and
`START_CAD` under FSK (R168). -/
def Obligations.StateWriters : Prop :=
  ∀ (i : Instr) (s t : State), exec i s = .next t →
    (i.format = .bus ∨ (∃ f, i = .setChannel f) ∨ i = .getStatus ∨ (i = .startCad ∧ s.modem = .fsk) ∨
      (∃ m n, i = .timeOnAir m n) ∨ (∃ f, i = .checkRfFrequency f) ∨ i = .lock ∨ i = .unlock ∨ i = .dio4Irq ∨
      i = .dio5Irq ∨ (∃ m, i = .setOperationMode m) ∨ i = .radioReset ∨ (∃ m, i = .setAntennaSwitch m) ∨
      i = .antennaLowPower ∨ (∃ p, i = .setRfTxPower p) ∨ (∃ b, i = .fskBandwidthCode b) ∨
      (∃ p q, i = .txPowerEncode p q) ∨ (∃ a b c d e r, i = .fskTimeOnAir a b c d e r) ∨
      (∃ a b c d e x y z, i = .loraTimeOnAir a b c d e x y z)) →
    t.state = s.state ∧ t.timer = s.timer

/-- R145: `pwr_amp_ctl` is driven low by the low-power posture and never high, `tcxo` is never changed. -/
def Obligations.OptionalLines : Prop :=
  ∀ (i : Instr) (s t : State), exec i s = .next t →
    t.gpio.tcxo = s.gpio.tcxo ∧ (t.gpio.pwrAmpCtl = true → s.gpio.pwrAmpCtl = true) ∧
    (∀ l, Event.gpioSet .tcxo l ∈ t.hist → Event.gpioSet .tcxo l ∈ s.hist) ∧
    (Event.gpioSet .pwrAmpCtl true ∈ t.hist → Event.gpioSet .pwrAmpCtl true ∈ s.hist)

/-- Who writes the single-purpose fields: the parameters and the schedule, nobody (R45); `S.irq_armed` and `S.cb_set`,
`INIT_RADIO` alone (R31, R33); `S.lock`, `LOCK` and `UNLOCK` alone (R27); `S.channel`, `SET_CHANNEL` and the two commands that
perform it (R212, R227, R228); `S.data_buf`, `SEND`, `RECEIVE` and the two handlers that drain (R24); the public-network
setting, `SET_PUBLIC_NETWORK` alone (R17). -/
def Obligations.FieldOwners : Prop :=
  ∀ (i : Instr) (s t : State), exec i s = .next t →
    t.cfg = s.cfg ∧ t.inputs = s.inputs ∧ (s.rst = .released → t.rst = .released) ∧
    ((∀ c, i ≠ .initRadio c) → t.irqArmed = s.irqArmed ∧ t.cbSet = s.cbSet) ∧
    (i ≠ .lock → i ≠ .unlock → t.lock = s.lock) ∧
    ((∀ f, i ≠ .setChannel f) → (∀ m f r d, i ≠ .performCarrierSense m f r d) →
      (∀ f p d, i ≠ .setTxContinuousWave f p d) → t.channel = s.channel) ∧
    ((∀ n b, i ≠ .send n b) → i ≠ .receive → i ≠ .dio0Irq → i ≠ .dio1Irq → t.dataBuf = s.dataBuf) ∧
    ((∀ e, i ≠ .setPublicNetwork e) → t.lora.publicNetwork = s.lora.publicNetwork)

/-- R255: a command that raises leaves the block exactly as it was before the frame arrived; only the one status byte is
sent. And a command always answers: its last event is its one response. -/
def Obligations.RaiseChangesNothing : Prop :=
  ∀ (i : Instr) (s t : State), i.format = .command → exec i s = .next t →
    ∃ ev status result, t.hist = s.hist ++ ev ++ [.response (status :: result)] ∧
      (∀ r, Event.response r ∉ ev) ∧ (∀ m, Event.callback m ∉ ev) ∧
      (status = 0x00 ∨ (status ∈ [0x01, 0x02] ∧ t = s.after 0 [.response [status]]))

/-! ### Status, lock, sleep, standby, initialisation (43_mode_controller.md, 46_facade.md) -/

/-- R213, R224: `GET_STATUS` answers the code of `S.state`, `CHECK_RF_FREQUENCY` accepts every frequency; neither changes
anything or touches the bus. -/
def Obligations.StatusAndFrequency : Prop :=
  ∀ (s : State) (f : Word),
    exec .getStatus s = .next (s.after 0 [okResponse [match s.state with
      | .idle => 0x00 | .rxRunning => 0x01 | .txRunning => 0x02 | .cad => 0x03]]) ∧
    exec (.checkRfFrequency f) s = .next (s.after 0 [okResponse [0x01]])

/-- R230, R231: `LOCK` counts up and is refused at 255, `UNLOCK` counts down and is refused at 0. -/
def Obligations.LockCount : Prop :=
  ∀ s : State,
    (s.lock.toNat < 255 → ∃ n : Byte, n.toNat = s.lock.toNat + 1 ∧
      exec .lock s = .next { s.after 0 [okResponse []] with lock := n }) ∧
    (s.lock.toNat = 255 → exec .lock s = .next (s.after 0 [.response [0x02]])) ∧
    (0 < s.lock.toNat → ∃ n : Byte, n.toNat + 1 = s.lock.toNat ∧
      exec .unlock s = .next { s.after 0 [okResponse []] with lock := n }) ∧
    (s.lock.toNat = 0 → exec .unlock s = .next (s.after 0 [.response [0x02]]))

/-- R149, R150: the timer cancelled, `Idle`, then the pins and the mode write; nothing else changes, not even the pending
register or the packet state. -/
def Obligations.SleepAndStandby : Prop :=
  ∀ s : State,
    exec .sleep s = .next { s.after 1 (.timerCancel :: modeEvents s.cfg (answer s) 0 .sleep ++ [okResponse []]) with
      state := .idle, timer := .disarmed, gpio := pinsDriven s.cfg.wiring (lowPowerPins s.cfg.wiring) s.gpio } ∧
    exec .standby s = .next { s.after 1 (.timerCancel :: modeEvents s.cfg (answer s) 0 .standby ++ [okResponse []]) with
      state := .idle, timer := .disarmed,
      gpio := pinsDriven s.cfg.wiring (modeLevels s.cfg .standby (answer s 0)) s.gpio }

/-- R210: callbacks taken, chip reset, sleep, defaults, FSK, `Idle`, armed. The last clause is the frame. -/
def Obligations.InitRadio : Prop :=
  ∀ (callbacks : Byte) (s : State),
    let a := { s.after 1 ([.rstLow, .wait s.cfg.resetLowMs, .rstRelease, .wait s.cfg.resetWaitMs]
        ++ modeEvents s.cfg (answer s) 0 .sleep) with
      cbSet := callbacks.setWidth 7, rst := .released, gpio := pinsDriven s.cfg.wiring (lowPowerPins s.cfg.wiring) s.gpio }
    let t := { (a.withDefaults.withModem .fsk).after 0 [.timerCancel, okResponse []] with
      state := .idle, timer := .disarmed, irqArmed := true }
    exec (.initRadio callbacks) s = .next t ∧ t.modem = .fsk ∧
      t = { s with
        cbSet := callbacks.setWidth 7, rst := .released, modem := .fsk, state := .idle, timer := .disarmed,
        irqArmed := true, gpio := t.gpio, answers := t.answers, reads := t.reads, hist := t.hist }

/-- R148, R211: `RADIO_RESET` pulses the pin and waits twice, and changes no other state; `LOAD_DEFAULT_REGISTERS` selects
the modem of each default and writes it, in list order, and changes nothing but what `SET_MODEM` changes. -/
def Obligations.ResetPulseAndDefaults : Prop :=
  ∀ s : State,
    exec .radioReset s = .next { s.after 0 [.rstLow, .wait s.cfg.resetLowMs, .rstRelease, .wait s.cfg.resetWaitMs] with
      rst := .released } ∧
    exec .loadDefaultRegisters s = .next s.withDefaults ∧
    s.withDefaults = { s with
      modem := s.withDefaults.modem, state := s.withDefaults.state, timer := s.withDefaults.timer,
      gpio := s.withDefaults.gpio, answers := s.withDefaults.answers, reads := s.withDefaults.reads,
      hist := s.withDefaults.hist }

/-! ### Mode, pins, modem (43_mode_controller.md) -/

/-- R140, R141, R143: the mode write preserves the other bits of `REG_OPMODE` as read and drives the pins first; the
low-power posture; the antenna switch, for every mode but `Sleep`, which is no operand of it (R143). `S.state` is not
written. -/
def Obligations.ModeAndPins : Prop :=
  ∀ (s : State) (mode : OpMode),
    exec (.setOperationMode mode) s = .next { s.after (modeReads s.cfg mode) (modeEvents s.cfg (answer s) 0 mode) with
      gpio := pinsDriven s.cfg.wiring (modeLevels s.cfg mode (answer s 0)) s.gpio } ∧
    exec .antennaLowPower s = .next { s.after 0 (pinEvents s.cfg.wiring (lowPowerPins s.cfg.wiring)) with
      gpio := pinsDriven s.cfg.wiring (lowPowerPins s.cfg.wiring) s.gpio } ∧
    (mode ≠ .sleep → exec (.setAntennaSwitch mode) s =
      .next { s.after (switchReads s.cfg mode) (switchEvents s.cfg mode (answer s 0)) with
        gpio := pinsDriven s.cfg.wiring (switchLevels s.cfg mode (answer s 0)) s.gpio })

/-- R144, R143, R141, R82, R142, R29: the level table, scheme by scheme and class by class; the six pins of the low-power
posture, in their order; the levels of a board wired otherwise; what a pin that is not connected does, and one that is.
Two clauses are the model's reading: that the override of R144 is a table of levels in `WIRING`, which leaves `pwr_amp_ctl`
low (log entry 21), and that `SET_ANTENNA_SWITCH(Sleep)` drives what `Standby` does (log entry 18). -/
def Obligations.PinLevels : Prop :=
  (∀ w : Wiring, w.levels = defaultLevels →
    (∀ boost, switchPins w .a .tx boost = [(.rfSwitchCtl1, boost), (.rfSwitchCtl2, !boost)]) ∧
    (∀ boost, switchPins w .a .rx boost = [(.rfSwitchCtl1, true), (.rfSwitchCtl2, true)]) ∧
    (∀ boost, switchPins w .a .other boost = [(.rfSwitchCtl1, false), (.rfSwitchCtl2, false)]) ∧
    (∀ boost, switchPins w .b .tx boost = [(.txctl, true), (.rxctl, false)]) ∧
    (∀ boost, switchPins w .b .rx boost = [(.txctl, false), (.rxctl, true)]) ∧
    (∀ boost, switchPins w .b .other boost = [(.txctl, false), (.rxctl, false)]) ∧
    (∀ boost, switchPins w .c .tx boost = [(.antSwitch, true)]) ∧
    (∀ c boost, c ≠ .tx → switchPins w .c c boost = [(.antSwitch, false)]) ∧
    lowPowerPins w = [(.pwrAmpCtl, false), (.antSwitch, false), (.rfSwitchCtl1, false), (.rfSwitchCtl2, false),
      (.txctl, false), (.rxctl, false)]) ∧
  (∀ (w : Wiring) (boost : Bool), let l := w.levels
    switchPins w .a .tx boost = (let x := if boost then l.aTxBoost else l.aTxRfo
      [(.rfSwitchCtl1, x.1), (.rfSwitchCtl2, x.2)]) ∧
    switchPins w .a .rx boost = [(.rfSwitchCtl1, l.aRx.1), (.rfSwitchCtl2, l.aRx.2)] ∧
    switchPins w .a .other boost = [(.rfSwitchCtl1, l.aOther.1), (.rfSwitchCtl2, l.aOther.2)] ∧
    switchPins w .b .tx boost = [(.txctl, l.bTx.1), (.rxctl, l.bTx.2)] ∧
    switchPins w .b .rx boost = [(.txctl, l.bRx.1), (.rxctl, l.bRx.2)] ∧
    switchPins w .b .other boost = [(.txctl, l.bOther.1), (.rxctl, l.bOther.2)] ∧
    switchPins w .c .tx boost = [(.antSwitch, l.cTx)] ∧
    switchPins w .c .rx boost = [(.antSwitch, l.cRx)] ∧
    switchPins w .c .other boost = [(.antSwitch, l.cOther)] ∧
    (∀ c, switchPins w .none c boost = []) ∧
    lowPowerPins w = [(.pwrAmpCtl, false), (.antSwitch, l.cLow), (.rfSwitchCtl1, l.aLow.1), (.rfSwitchCtl2, l.aLow.2),
      (.txctl, l.bLow.1), (.rxctl, l.bLow.2)]) ∧
  (∀ m, (modeClass m = .tx ↔ m = .transmitter) ∧
    (modeClass m = .rx ↔ m = .receiver ∨ m = .receiverSingle ∨ m = .cad)) ∧
  (∀ w : Wiring,
    (scheme w = .a ↔ w.rfSwitchCtl1 = true ∧ w.rfSwitchCtl2 = true) ∧
    (scheme w = .b ↔ ¬(w.rfSwitchCtl1 = true ∧ w.rfSwitchCtl2 = true) ∧ w.txctl = true ∧ w.rxctl = true) ∧
    (scheme w = .c ↔ ¬(w.rfSwitchCtl1 = true ∧ w.rfSwitchCtl2 = true) ∧ ¬(w.txctl = true ∧ w.rxctl = true) ∧
      w.antSwitch = true)) ∧
  (∀ (s : State) (p : Pin) (level : Bool),
    (s.cfg.wiring.connected p = false → gpioSet p level s = s) ∧
    (s.cfg.wiring.connected p = true →
      gpioSet p level s = { s.after 0 [.gpioSet p level] with gpio := gpioPut s.gpio p level }) ∧
    exec (.setAntennaSwitch .sleep) s = exec (.setAntennaSwitch .standby) s) ∧
  (∀ (g : Gpio) (p q : Pin) (level : Bool), gpioGet (gpioPut g p level) q = if q = p then level else gpioGet g q) ∧
  (∀ (w : Wiring) (l : List (Pin × Bool)) (p : Pin) (level : Bool) (g : Gpio),
    pinEvents w [] = [] ∧ pinsDriven w [] g = g ∧
    pinEvents w ((p, level) :: l) = (if w.connected p then [.gpioSet p level] else []) ++ pinEvents w l ∧
    pinsDriven w ((p, level) :: l) g = pinsDriven w l (if w.connected p then gpioPut g p level else g))

/-- R146, R147: the chip's long-range-mode bit decides; a second `SET_MODEM` of the same kind, against a chip that answers
that kind, is one read and nothing else. -/
def Obligations.ModemSelection : Prop :=
  ∀ (s : State) (kind : ModemKind),
    exec (.setModem kind) s = .next (s.withModem kind) ∧ (s.withModem kind).modem = kind ∧
    (modemOfOpmode s.cfg.regmap (answer (s.withModem kind) 0) = kind →
      exec (.setModem kind) (s.withModem kind) =
        .next ((s.withModem kind).after 1 [readOf s.cfg.regmap.opmode (answer (s.withModem kind) 0)]))

/-! ### Configuration (46_facade.md) -/

/-- R212, R102: the frequency is stored and the carrier registers are programmed; under the default `CHANNEL_WRITES` these are
three writes, most significant byte first, of `(freq_hz * 256) div 15625`. -/
def Obligations.SetChannel : Prop :=
  ∀ (s : State) (f : Word),
    exec (.setChannel f) s = .next { s.after (seqReads (channelWrites s.cfg f))
      (seqEvents (answer s) 0 (channelWrites s.cfg f) ++ [okResponse []]) with channel := f } ∧
    (s.cfg.chipSeq.channelWrites = .formula → ∃ hi mid lo : Byte,
      (hi.toNat * 65536 + mid.toNat * 256 + lo.toNat) = f.toNat * 256 / 15625 % 2 ^ 24 ∧
      exec (.setChannel f) s = .next { s.after 0 [writeOf s.cfg.regmap.frfMsb hi, writeOf s.cfg.regmap.frfMid mid,
        writeOf s.cfg.regmap.frfLsb lo, okResponse []] with channel := f })

/-- R214, R120, R255: an FSK bandwidth the table does not bracket is `InvalidBandwidth` and nothing else; otherwise the modem is
selected, the operands are stored for that modem, and `RXCFG` programs the chip from the settings just stored. -/
def Obligations.SetRxConfig : Prop :=
  ∀ (a : RxConfigArgs) (s : State),
    let valid := a.modem = .lora ∨ ((bandwidthCode s.cfg.fskBwTable a.bandwidth.toNat).isSome ∧
      (bandwidthCode s.cfg.fskBwTable a.afcBandwidth.toNat).isSome)
    let m := s.withModem a.modem
    let u := match a.modem with
      | .fsk => { m with fsk := {
          power := s.fsk.power, freqDev := s.fsk.freqDev, bandwidth := a.bandwidth, bandwidthAfc := a.afcBandwidth,
          datarate := a.datarate, preambleLen := a.preambleLen, fixLen := a.fixedLen, payloadLen := a.payloadLen,
          crcOn := a.crcOn, freqHopOn := a.freqHopOn, hopPeriod := a.hopPeriod, iqInverted := a.iqInverted,
          rxContinuous := a.rxContinuous, txTimeout := s.fsk.txTimeout,
          rxSingleTimeout := if a.datarate = 0 then 0
            else BitVec.ofNat 32 (a.symbolTimeout.toNat * 8000 / a.datarate.toNat) } }
      | .lora => { m with lora := {
          power := s.lora.power, bandwidth := a.bandwidth, datarate := a.datarate, coderate := a.coderate,
          lowDatarateOptimize := decide
            ((loraBwHz a.bandwidth.toNat = some 125000 ∧ (a.datarate = 11 ∨ a.datarate = 12)) ∨
              (loraBwHz a.bandwidth.toNat = some 250000 ∧ a.datarate = 12)),
          preambleLen := a.preambleLen, fixLen := a.fixedLen, payloadLen := a.payloadLen, crcOn := a.crcOn,
          freqHopOn := a.freqHopOn, hopPeriod := a.hopPeriod, iqInverted := a.iqInverted,
          rxContinuous := a.rxContinuous, symbolTimeout := a.symbolTimeout, txTimeout := s.lora.txTimeout,
          publicNetwork := s.lora.publicNetwork } }
    let w := configWrites s.cfg.chipSeq.rxcfg a.modem u
    (¬valid → exec (.setRxConfig a) s = .next (s.after 0 [.response [0x01]])) ∧
    (valid → exec (.setRxConfig a) s =
      .next (u.after (seqReads w) (seqEvents (answer m) 0 w ++ [okResponse []])))

/-- R217, R101: the modem, the power registers, the operands (the power as requested), then `TXCFG`, no step of which is at a
PA register. -/
def Obligations.SetTxConfig : Prop :=
  ∀ (a : TxConfigArgs) (s : State),
    let m := s.withModem a.modem
    let u := match a.modem with
      | .fsk => { m with fsk := {
          power := a.power, freqDev := a.freqDev, bandwidth := a.bandwidth, bandwidthAfc := s.fsk.bandwidthAfc,
          datarate := a.datarate, preambleLen := a.preambleLen, fixLen := a.fixedLen, payloadLen := s.fsk.payloadLen,
          crcOn := a.crcOn, freqHopOn := a.freqHopOn, hopPeriod := a.hopPeriod, iqInverted := a.iqInverted,
          rxContinuous := s.fsk.rxContinuous, txTimeout := a.timeoutMs, rxSingleTimeout := s.fsk.rxSingleTimeout } }
      | .lora => { m with lora := {
          power := a.power, bandwidth := a.bandwidth, datarate := a.datarate, coderate := a.coderate,
          lowDatarateOptimize := decide
            ((loraBwHz a.bandwidth.toNat = some 125000 ∧ (a.datarate = 11 ∨ a.datarate = 12)) ∨
              (loraBwHz a.bandwidth.toNat = some 250000 ∧ a.datarate = 12)),
          preambleLen := a.preambleLen, fixLen := a.fixedLen, payloadLen := s.lora.payloadLen, crcOn := a.crcOn,
          freqHopOn := a.freqHopOn, hopPeriod := a.hopPeriod, iqInverted := a.iqInverted,
          rxContinuous := s.lora.rxContinuous, symbolTimeout := s.lora.symbolTimeout, txTimeout := a.timeoutMs,
          publicNetwork := s.lora.publicNetwork } }
    let w := (configWrites s.cfg.chipSeq.txcfg a.modem u).filter
      (fun x => decide (x.addr ≠ s.cfg.regmap.paConfig ∧ x.addr ≠ s.cfg.regmap.paDac))
    exec (.setTxConfig a) s = .next (u.after (2 + seqReads w)
      (powerEvents s.cfg (answer m) 0 a.power ++ seqEvents (answer m) 2 w ++ [okResponse []]))

/-- R220, R221: the modem is selected; the cap is written unless FSK is in fixed length, and no stored length changes; the
public-network setting is stored and its sync word written, LoRa left selected. -/
def Obligations.PayloadCapAndNetwork : Prop :=
  ∀ (s : State) (max : Byte) (enabled : Bool),
    exec (.setMaxPayloadLength .fsk max) s = .next ((s.withModem .fsk).after 0
      ((if s.fsk.fixLen then [] else [writeOf s.cfg.regmap.payloadLength max]) ++ [okResponse []])) ∧
    exec (.setMaxPayloadLength .lora max) s = .next ((s.withModem .lora).after 0
      [writeOf s.cfg.regmap.lrPayloadMaxLength max, okResponse []]) ∧
    exec (.setPublicNetwork enabled) s = .next { (s.withModem .lora).after 0
      [writeOf s.cfg.regmap.lrSyncWord (if enabled then s.cfg.syncwordPublic else s.cfg.syncwordPrivate),
        okResponse []] with lora := { s.lora with publicNetwork := enabled } }

/-! ### Calculators (42_calculators.md) -/

/-- R120: over an ascending table the code of the one adjacent pair that brackets the request; `InvalidBandwidth` exactly
below the first entry and at or above the last. That the result stands in `ret` is the model's (log entry 12). -/
def Obligations.BandwidthLookup : Prop :=
  ∀ (s : State) (bw : Word), s.cfg.wellFormed = true → let T := s.cfg.fskBwTable
    (∀ i, (h : i + 1 < T.length) → T[i].bw ≤ bw.toNat → bw.toNat < T[i + 1].bw →
      exec (.fskBandwidthCode bw) s = .next { s with ret := .code T[i].code }) ∧
    ((∀ i, (h : i < T.length) → i = 0 → bw.toNat < T[i].bw) ∨ (∀ i, (h : i < T.length) → i + 1 = T.length → T[i].bw ≤ bw.toNat) →
      exec (.fskBandwidthCode bw) s = .next { s with ret := .invalidBandwidth bw }) ∧
    (∃ r, exec (.fskBandwidthCode bw) s = .next { s with ret := r })

/-- R123, R124: the clamps, the boost bit and the field; the two PA registers rewritten from what was read, the path bit and
the power field replaced in the one, the boost field in the other, which on `Rfo` is written back as read. That the encoder's
results stand in `ret` is the model's (log entry 12). -/
def Obligations.TxPower : Prop :=
  ∀ (s : State) (power : Byte) (path : PaPath),
    ∃ (p : Int) (boost : Bool) (field : BitVec 4),
      exec (.txPowerEncode power path) s = .next { s with ret := .txPower p boost field } ∧
      (boost = true ↔ path = .paBoost ∧ power.toInt > 17) ∧
      (path = .rfo → p = max (-1) (min power.toInt 14) ∧ (field.toNat : Int) = p + 1) ∧
      (path = .paBoost → power.toInt ≤ 17 → p = max 2 power.toInt ∧ (field.toNat : Int) = p - 2) ∧
      (path = .paBoost → power.toInt > 17 → p = min power.toInt 20 ∧ (field.toNat : Int) = p - 5) ∧
      (s.cfg.paSelect = path → let r := s.cfg.regmap
        let pa := answer s 0
        let dac := answer s 1
        exec (.setRfTxPower power) s = .next (s.after 2 [readOf r.paConfig pa, readOf r.paDac dac,
          writeOf r.paConfig ((((pa &&& r.paSelectMask) ||| (if path = .paBoost then r.paSelect else 0)) &&& r.paPowerMask)
            ||| field.setWidth 8),
          writeOf r.paDac (if path = .paBoost then
              (dac &&& r.paDac20dBmMask) ||| (if boost then r.paDac20dBmOn else r.paDac20dBmOff)
            else dac)]))

/-- R127, R128, R126: both airtimes are the exact rational, rounded once in the direction the document names: to the nearest
for FSK, halves up, and up for LoRa; no result for a rate or a bandwidth of 0 or a spreading factor not above twice the
optimisation bit. That the result stands in `ret` is the model's (log entry 12). -/
def Obligations.AirtimeExact : Prop :=
  (∀ (s : State) (p y a l c r : Nat),
    (r = 0 → exec (.fskTimeOnAir p y a l c r) s = .next { s with ret := .noResult }) ∧
    (0 < r → exec (.fskTimeOnAir p y a l c r) s =
      .next { s with ret := .ms (round ((8 * (p + y + a + l + c) * 1000 : ℚ) / r)).toNat })) ∧
  (∀ (s : State) (bw sf cr p l : Nat) (crc fixed ldro : Bool),
    let d : Int := if ldro then 2 else 0
    let num : ℚ := 8 * l - 4 * sf + 28 + (if crc then 16 else 0) - (if fixed then 20 else 0)
    let symbols : ℚ := 8 + max ((⌈num / (4 * (sf - d))⌉ : ℚ) * (cr + 4)) 0
    ((sf : Int) ≤ d ∨ bw = 0 →
      exec (.loraTimeOnAir bw sf cr p l crc fixed ldro) s = .next { s with ret := .noResult }) ∧
    ((sf : Int) > d → 0 < bw → exec (.loraTimeOnAir bw sf cr p l crc fixed ldro) s =
      .next { s with ret := .ms ⌈(p + 17 / 4 + symbols) * (2 ^ sf / bw) * 1000⌉.toNat }))

/-- R129, R222, R223: the six stored bandwidths that map to Hz, and no other; the FSK answer from two chip readings, refused
for a rate of 0; the LoRa answer without a bus transaction, refused where the bandwidth has no mapping, the spreading factor
gives no result, or the result does not fit 32 bits. Nothing but the history and the chip's answers changes. -/
def Obligations.TimeOnAir : Prop :=
  (∀ b hz : Nat, loraBwHz b = some hz ↔ ((b = 125000 ∨ b = 0) ∧ hz = 125000) ∨ ((b = 250000 ∨ b = 1) ∧ hz = 250000) ∨
    ((b = 500000 ∨ b = 2) ∧ hz = 500000)) ∧
  ∀ (s : State) (n : Byte),
    (s.fsk.datarate = 0 → exec (.timeOnAir .fsk n) s = .next (s.after 0 [.response [0x02]])) ∧
    (s.fsk.datarate ≠ 0 → ∃ ms : Word,
      fskTimeOnAir s.fsk.preambleLen.toNat ((answer s 0 &&& ~~~s.cfg.regmap.syncSizeMask).toNat + 1)
        (if answer s 1 &&& ~~~s.cfg.regmap.addrsFilteringMask = 0 then 0 else 1) n.toNat
        (if s.fsk.crcOn then 2 else 0) s.fsk.datarate.toNat = some ms.toNat ∧
      exec (.timeOnAir .fsk n) s = .next (s.after 2 [readOf s.cfg.regmap.syncConfig (answer s 0),
        readOf s.cfg.regmap.packetConfig1 (answer s 1), okResponse (le32 ms)])) ∧
    (∀ ms : Word, (∃ bw, loraBwHz s.lora.bandwidth.toNat = some bw ∧
        loraTimeOnAir bw s.lora.datarate.toNat s.lora.coderate.toNat s.lora.preambleLen.toNat n.toNat s.lora.crcOn
          s.lora.fixLen s.lora.lowDatarateOptimize = some ms.toNat) →
      exec (.timeOnAir .lora n) s = .next (s.after 0 [okResponse (le32 ms)])) ∧
    ((¬∃ (ms : Word) (bw : Nat), loraBwHz s.lora.bandwidth.toNat = some bw ∧
        loraTimeOnAir bw s.lora.datarate.toNat s.lora.coderate.toNat s.lora.preambleLen.toNat n.toNat s.lora.crcOn
          s.lora.fixLen s.lora.lowDatarateOptimize = some ms.toNat) →
      exec (.timeOnAir .lora n) s = .next (s.after 0 [.response [0x02]]))

/-! ### Starting an operation (44_pipeline.md) -/

/-- R164, R165: the mapping, the FSK threshold, `TxRunning`, the timer armed before the mode write. -/
def Obligations.Transmit : Prop :=
  ∀ (s : State) (ms : Word),
    exec (.transmit ms) s = .next { s.after (transmitReads s + modeReads s.cfg .transmitter) (transmitEvents s 0 ms) with
      state := .txRunning, timer := .armed ms, gpio := transmitLevels s 0 s.gpio,
      fskPh := { s.fskPh with fifoThresh := transmitThresh s 0 } }

/-- R160, R161, R162, R164: an FSK send stores the payload at 0, frames it, writes the first chunk, and transmits. The bytes
of the buffer at `size` and above are unchanged. -/
def Obligations.SendFsk : Prop :=
  ∀ (s : State) (size : Byte) (buffer : List Byte),
    s.modem = .fsk → s.cfg.wellFormed = true → Memory.wf s.dataBuf = true →
    buffer.length = size.toNat → size.toNat ≤ s.cfg.maxDataBufferSize →
    let chunk := if size.toNat ≤ s.cfg.fskSingleWriteMax then size.toNat else s.cfg.fifoBurst
    let w := wakeReads s.cfg (answer s 0)
    ∃ t, exec (.send size buffer) s = .next t ∧
      t = { s.after (w + (transmitReads s + modeReads s.cfg .transmitter)) (wakeEvents s.cfg (answer s) 0
          ++ (if s.fsk.fixLen then [writeOf s.cfg.regmap.payloadLength size] else [.busWrite regFifo [size]])
          ++ fifoWriteOf (buffer.take chunk) ++ transmitEvents s w s.fsk.txTimeout ++ [okResponse []]) with
        state := .txRunning, timer := .armed s.fsk.txTimeout, dataBuf := t.dataBuf,
        gpio := transmitLevels s w (wakeLevels s.cfg (answer s) 0 s.gpio),
        fskPh := { s.fskPh with
          size := size.setWidth 16, nbBytes := BitVec.ofNat 16 chunk,
          chunkSize := BitVec.ofNat 8 chunk, fifoThresh := transmitThresh s w } } ∧
      ∀ a, Memory.read t.dataBuf a = if a < size.toNat then buffer.getD a 0 else Memory.read s.dataBuf a

/-- R160, R163, R164: a LoRa send stores the payload at 0, sets the length and the two FIFO addresses, wakes the chip, writes
the whole payload in one burst, and transmits. -/
def Obligations.SendLora : Prop :=
  ∀ (s : State) (size : Byte) (buffer : List Byte),
    s.modem = .lora → Memory.wf s.dataBuf = true →
    buffer.length = size.toNat → size.toNat ≤ s.cfg.maxDataBufferSize →
    let w := wakeReads s.cfg (answer s 0)
    ∃ t, exec (.send size buffer) s = .next t ∧
      t = { s.after (w + (transmitReads s + modeReads s.cfg .transmitter))
          ([writeOf s.cfg.regmap.lrPayloadLength size, writeOf s.cfg.regmap.lrFifoTxBaseAddr 0,
            writeOf s.cfg.regmap.lrFifoAddrPtr 0] ++ wakeEvents s.cfg (answer s) 0 ++ fifoWriteOf buffer
          ++ transmitEvents s w s.lora.txTimeout ++ [okResponse []]) with
        state := .txRunning, timer := .armed s.lora.txTimeout, dataBuf := t.dataBuf,
        gpio := transmitLevels s w (wakeLevels s.cfg (answer s) 0 s.gpio),
        loraPh := { s.loraPh with size := size } } ∧
      ∀ a, Memory.read t.dataBuf a = if a < size.toNat then buffer.getD a 0 else Memory.read s.dataBuf a

/-- R166: the mapping, for FSK the threshold and the packet state, the whole buffer zeroed, `RxRunning`, and the receive mode
of the continuous flag. The timer is not touched. -/
def Obligations.Receive : Prop :=
  ∀ s : State,
    (s.modem = .fsk → let n := seqReads s.cfg.chipSeq.rxMapFsk
      ∃ t, exec .receive s = .next t ∧
        t = { s.after (n + 1 + modeReads s.cfg .receiver) (seqEvents (answer s) 0 s.cfg.chipSeq.rxMapFsk
            ++ [readOf s.cfg.regmap.fifoThresh (answer s n)] ++ modeEvents s.cfg (answer s) (n + 1) .receiver
            ++ [okResponse []]) with
          state := .rxRunning, dataBuf := t.dataBuf,
          gpio := pinsDriven s.cfg.wiring (modeLevels s.cfg .receiver (answer s (n + 1))) s.gpio,
          fskPh := { clearedPacket s.fskPh with fifoThresh := answer s n &&& s.cfg.regmap.fifoThreshMask } } ∧
        ∀ a, Memory.read t.dataBuf a = if a < s.cfg.maxDataBufferSize then 0 else Memory.read s.dataBuf a) ∧
    (s.modem = .lora → let map := rxMapLora s.cfg.chipSeq s.lora.freqHopOn s.lora.rxContinuous
      let mode : OpMode := if s.lora.rxContinuous then .receiver else .receiverSingle
      ∃ t, exec .receive s = .next t ∧
        t = { s.after (seqReads map + modeReads s.cfg mode) (seqEvents (answer s) 0 map
            ++ modeEvents s.cfg (answer s) (seqReads map) mode ++ [okResponse []]) with
          state := .rxRunning, dataBuf := t.dataBuf,
          gpio := pinsDriven s.cfg.wiring (modeLevels s.cfg mode (answer s (seqReads map))) s.gpio } ∧
        ∀ a, Memory.read t.dataBuf a = if a < s.cfg.maxDataBufferSize then 0 else Memory.read s.dataBuf a)

/-- R168: nothing at all for FSK but the response; for LoRa the mapping, the mode write and `Cad`. -/
def Obligations.StartCad : Prop :=
  ∀ s : State,
    (s.modem = .fsk → exec .startCad s = .next (s.after 0 [okResponse []])) ∧
    (s.modem = .lora → let n := seqReads s.cfg.chipSeq.cadMap
      exec .startCad s = .next { s.after (n + modeReads s.cfg .cad) (seqEvents (answer s) 0 s.cfg.chipSeq.cadMap
          ++ modeEvents s.cfg (answer s) n .cad ++ [okResponse []]) with
        state := .cad, gpio := pinsDriven s.cfg.wiring (modeLevels s.cfg .cad (answer s n)) s.gpio })

/-! ### Busy-polling commands and the continuous wave (46_facade.md) -/

/-- R226: LoRa selected, interrupts masked, 32 polls one wait apart, bit `i` of the value being bit 0 of the `i`-th reading,
and the chip put to sleep. -/
def Obligations.Random : Prop :=
  ∀ s : State, let m := s.withModem .lora
    ∃ v : Word, (∀ i, i < 32 → v.getLsbD i = (answer m (1 + i)).getLsbD 0) ∧
      exec .random s = .next { m.after 34 ([writeOf s.cfg.regmap.lrIrqFlagsMask 0xFF]
          ++ modeEvents s.cfg (answer m) 0 .receiver
          ++ (List.range 32).flatMap (fun i =>
              [.wait s.cfg.pollMs, readOf s.cfg.regmap.lrRssiWideband (answer m (1 + i))])
          ++ .timerCancel :: modeEvents s.cfg (answer m) 33 .sleep ++ [okResponse (le32 v)]) with
        state := .idle, timer := .disarmed,
        gpio := pinsDriven s.cfg.wiring (lowPowerPins s.cfg.wiring)
          (pinsDriven s.cfg.wiring (modeLevels s.cfg .receiver (answer m 0)) m.gpio) }

/-- R227: the channel, the receive mode, at most `N` polls for some `N` within the duration; the first reading above the
threshold ends them with 0, none gives 1; then sleep. The script of draws is the model's (log entry 9), and so is a free bound
under `POLL_MS` = 0, about which nothing is said. -/
def Obligations.CarrierSense : Prop :=
  ∀ (s : State) (modem : ModemKind) (freq : Word) (threshold : Half) (duration : Word),
    let m := s.withModem modem
    let seq := channelWrites s.cfg freq
    let n := seqReads seq
    let addr := match modem with | .fsk => s.cfg.regmap.rssiValue | .lora => s.cfg.regmap.lrRssiValue
    let rssi : Nat → Int := fun k => match modem with
      | .fsk => -(((answer m (n + 1 + k)).toNat / 2 : Nat) : Int)
      | .lora => s.cfg.rssiOffset + (answer m (n + 1 + k)).toNat
    ∃ (N j : Nat) (free : Bool), (0 < s.cfg.pollMs → N ≤ duration.toNat / s.cfg.pollMs) ∧ j ≤ N ∧
      (∀ d rest, 0 < s.cfg.pollMs → s.draws = d :: rest → N = min d (duration.toNat / s.cfg.pollMs)) ∧
      (free = true → j = N ∧ ∀ k, k < N → rssi k ≤ threshold.toInt) ∧
      (free = false → 0 < j ∧ rssi (j - 1) > threshold.toInt ∧ ∀ k, k < j - 1 → rssi k ≤ threshold.toInt) ∧
      exec (.performCarrierSense modem freq threshold duration) s = .next { m.after (n + 1 + j + 1)
          (seqEvents (answer m) 0 seq ++ modeEvents s.cfg (answer m) n .receiver ++ [.wait s.cfg.pollMs]
          ++ (List.range j).flatMap (fun k => readOf addr (answer m (n + 1 + k)) ::
              if k + 1 = j ∧ free = false then [] else [.wait s.cfg.pollMs])
          ++ .timerCancel :: modeEvents s.cfg (answer m) (n + 1 + j) .sleep
          ++ [okResponse [if free then 1 else 0]]) with
        channel := freq, state := .idle, timer := .disarmed, draws := s.draws.drop 1, drawn := s.drawn + 1,
        gpio := pinsDriven s.cfg.wiring (lowPowerPins s.cfg.wiring)
          (pinsDriven s.cfg.wiring (modeLevels s.cfg .receiver (answer m n)) m.gpio) }

/-- R228: the channel, the `SET_TX_CONFIG` steps for FSK, `CW_MAP`, `TxRunning`, the timer armed with `duration` in its unit
where that fits 32 bits, then the transmit mode. -/
def Obligations.ContinuousWave : Prop :=
  ∀ (s : State) (freq : Word) (power : Byte) (duration : Half),
    let seq := channelWrites s.cfg freq
    let c := { s.after (seqReads seq) (seqEvents (answer s) 0 seq) with channel := freq }
    let m := c.withModem .fsk
    ∃ ms : Word, (duration.toNat * s.cfg.cwDurationUnitMs < 2 ^ 32 → ms.toNat = duration.toNat * s.cfg.cwDurationUnitMs) ∧
      let u := { m with fsk := { s.fsk with
        power := power, freqDev := 0, bandwidth := 0, datarate := 4800, preambleLen := 5, fixLen := false, crcOn := false,
        freqHopOn := false, hopPeriod := 0, iqInverted := false, txTimeout := ms } }
      let w := (configWrites s.cfg.chipSeq.txcfg .fsk u).filter
        (fun x => decide (x.addr ≠ s.cfg.regmap.paConfig ∧ x.addr ≠ s.cfg.regmap.paDac))
      let n := 2 + seqReads w
      let k := n + seqReads s.cfg.chipSeq.cwMap
      exec (.setTxContinuousWave freq power duration) s = .next { u.after (k + modeReads s.cfg .transmitter)
          (powerEvents s.cfg (answer m) 0 power ++ seqEvents (answer m) 2 w
          ++ seqEvents (answer m) n s.cfg.chipSeq.cwMap ++ [.timerStart ms]
          ++ modeEvents s.cfg (answer m) k .transmitter ++ [okResponse []]) with
        state := .txRunning, timer := .armed ms,
        gpio := pinsDriven s.cfg.wiring (modeLevels s.cfg .transmitter (answer m k)) m.gpio }

/-! ### Bus primitives (41_register_access.md) -/

/-- R110 to R116: each primitive appends exactly one transaction, none for a burst of no bytes, and reads or writes no state
of the block; a read hands over what the chip answered. What it hands over is the model's own field (log entry 12). -/
def Obligations.BusPrimitives : Prop :=
  ∀ (s : State) (addr : Addr) (v : Byte) (bytes : List Byte) (n : Nat),
    exec (.writeRegister addr v) s = .next (s.after 0 [.busWrite addr [v]]) ∧
    exec (.writeRegisters addr bytes) s = .next (s.after 0 (if bytes = [] then [] else [.busWrite addr bytes])) ∧
    exec (.writeFifo bytes) s = .next (s.after 0 (if bytes = [] then [] else [.busWrite 0 bytes])) ∧
    exec (.readRegister addr) s = .next { s.after 1 [.busRead addr [answer s 0]] with ret := .bytes [answer s 0] } ∧
    exec (.readRegisters addr n) s = .next { s.after n (if n = 0 then [] else [.busRead addr (answersFrom s 0 n)]) with
      ret := .bytes (answersFrom s 0 n) } ∧
    exec (.readFifo n) s = .next { s.after n (if n = 0 then [] else [.busRead 0 (answersFrom s 0 n)]) with
      ret := .bytes (answersFrom s 0 n) }

/-! ### Handlers (45_event_handlers.md) -/

/-- R200: the cells of the handler table: from a good state, with every callback supplied, each handler answers a next state
whose `S.state` and whose one callback are among those the table lists for its cell; a cell that says "nothing" changes
nothing at all. Which of two outcomes a cell takes is stated with its handler. -/
def Obligations.HandlerTable : Prop :=
  ∀ (s : State), Inv s → s.cbSet = 0x7F →
    let after := fun (cont : Bool) => if cont then s.state else RadioState.idle
    let outcome := fun (i : Instr) (st : RadioState) (cb : Option Nat) =>
      ∃ t ev, exec i s = .next t ∧ t.state = st ∧ t.hist = s.hist ++ ev ∧
        match cb with
        | none => ∀ m, Event.callback m ∉ ev
        | some n => ∃ l, ev.filter Event.isCallback = [.callback (BitVec.ofNat 8 n :: l)]
    let nothing := fun (i : Instr) => exec i s = .next s
    (match s.state, s.modem with
      | .rxRunning, .fsk => outcome .dio0Irq (after s.fsk.rxContinuous) (some 4) ∨
          outcome .dio0Irq (after s.fsk.rxContinuous) (some 2)
      | .rxRunning, .lora => outcome .dio0Irq (after s.lora.rxContinuous) (some 4) ∨
          outcome .dio0Irq (after s.lora.rxContinuous) (some 2)
      | .txRunning, _ => outcome .dio0Irq .idle (some 0)
      | .idle, _ => nothing .dio0Irq
      | .cad, _ => nothing .dio0Irq) ∧
    (match s.state, s.modem with
      | .rxRunning, .fsk => outcome .dio1Irq s.state none ∨ outcome .dio1Irq (after s.fsk.rxContinuous) (some 4)
      | .rxRunning, .lora => outcome .dio1Irq .idle (some 3)
      | .txRunning, .fsk => outcome .dio1Irq s.state none
      | _, _ => nothing .dio1Irq) ∧
    (match s.state, s.modem with
      | .rxRunning, .fsk => outcome .dio2Irq (after s.fsk.rxContinuous) (some 3)
      | .rxRunning, .lora => if s.lora.freqHopOn then outcome .dio2Irq s.state (some 5) else nothing .dio2Irq
      | .txRunning, .lora => if s.lora.freqHopOn then outcome .dio2Irq s.state (some 5) else nothing .dio2Irq
      | _, _ => nothing .dio2Irq) ∧
    (match s.state, s.modem with
      | .cad, .lora => outcome .dio3Irq .idle (some 6)
      | _, .lora => outcome .dio3Irq s.state (some 6)
      | _, .fsk => nothing .dio3Irq) ∧
    (match s.modem with
      | .fsk => exec .dio4Irq s = .next { s with fskPh := { s.fskPh with preambleDetected := true } }
      | .lora => nothing .dio4Irq) ∧
    nothing .dio5Irq ∧
    (match s.state with
      | .txRunning => outcome .timeoutIrq .idle (some 1) ∧ ∀ t, exec .timeoutIrq s = .next t → t.modem = .lora
      | _ => nothing .timeoutIrq)

/-- R185, R182, R190: a good FSK packet: the CRC flag if enabled, the length if not yet known, the rest of the FIFO into the
buffer, the four readings, idle or restart, `rx_done` with a copy of the payload, the packet state cleared. The bytes of the
buffer outside the drained ones are unchanged. -/
def Obligations.FskPacketDelivered : Prop :=
  ∀ s : State, Inv s → s.state = .rxRunning → s.modem = .fsk →
    (s.fsk.crcOn = true → flagSet (answer s 0) s.cfg.regmap.irq2CrcOk = true) →
    let c := if s.fsk.crcOn then 1 else 0
    let known := !lengthUnknown s
    let size := if known then s.fskPh.size.toNat else (answer s c).toNat
    size ≤ s.cfg.maxDataBufferSize →
    let k := c + (if known then 0 else 1)
    let first := s.fskPh.nbBytes.toNat
    let bytes := answersFrom s k (size - first)
    let q := k + (size - first)
    let rssi := BitVec.ofInt 16 (-(((answer s q).toNat / 2 : Nat) : Int))
    let payload := (List.range size).map (fun a => if a < first then Memory.read s.dataBuf a else bytes.getD (a - first) 0)
    ∃ t, exec .dio0Irq s = .next t ∧
      t = { (s.after (q + 4 + fskEndReads s)
          ((if s.fsk.crcOn then [readOf s.cfg.regmap.irqFlags2 (answer s 0)] else [])
          ++ (if known then [] else lengthEvents s (answer s c)) ++ fifoReadOf bytes
          ++ [readOf s.cfg.regmap.rssiValue (answer s q), readOf s.cfg.regmap.afcMsb (answer s (q + 1)),
              readOf s.cfg.regmap.afcLsb (answer s (q + 2)), readOf s.cfg.regmap.lna (answer s (q + 3))]
          ++ fskEndEvents s (q + 4)
          ++ callbackEvents s.cbSet (.rxDone (BitVec.ofNat 16 size) rssi 0 payload))).received s.fsk.rxContinuous with
        dataBuf := t.dataBuf,
        fskPh := { clearedPacket s.fskPh with
          rssiValue := rssi, afcValue := answer s (q + 1) ++ answer s (q + 2),
          rxGain := (answer s (q + 3) >>> 5) &&& 7 } } ∧
      ∀ a, Memory.read t.dataBuf a =
        if first ≤ a ∧ a < size then bytes.getD (a - first) 0 else Memory.read s.dataBuf a

/-- R183, R184, R182: an FSK packet is abandoned on a bad CRC, on a declared length over the buffer (at DIO0 or at DIO1, and no
byte of it is written), and by `FSK_RX_ABORT` itself: the flag clear, idle or restart, `rx_error`, the packet state cleared. -/
def Obligations.FskPacketAbandoned : Prop :=
  ∀ s : State,
    exec .fskRxAbort s = .next (s.aborted 0 []) ∧
    (s.state = .rxRunning → s.modem = .fsk →
      (s.fsk.crcOn = true → flagSet (answer s 0) s.cfg.regmap.irq2CrcOk = false →
        exec .dio0Irq s = .next (s.aborted 1 [readOf s.cfg.regmap.irqFlags2 (answer s 0)])) ∧
      (lengthUnknown s = true → s.fsk.crcOn = false → (answer s 0).toNat > s.cfg.maxDataBufferSize →
        exec .dio0Irq s = .next (s.aborted 1 (lengthEvents s (answer s 0)))) ∧
      (lengthUnknown s = true → s.fsk.crcOn = true → flagSet (answer s 0) s.cfg.regmap.irq2CrcOk = true →
        (answer s 1).toNat > s.cfg.maxDataBufferSize →
        exec .dio0Irq s = .next (s.aborted 2
          (readOf s.cfg.regmap.irqFlags2 (answer s 0) :: lengthEvents s (answer s 1)))) ∧
      (lengthUnknown s = true → (answer s 0).toNat > s.cfg.maxDataBufferSize →
        exec .dio1Irq s = .next (s.aborted 1 (lengthEvents s (answer s 0)))))

/-- R186 to R189, R184: the LoRa packet handler: the flag clear, a CRC error or an over-long packet reported and not drained,
a good packet read at the chip's pointer into the buffer from 0 and delivered with its SNR and RSSI. -/
def Obligations.LoraPacket : Prop :=
  ∀ s : State, s.state = .rxRunning → s.modem = .lora → Memory.wf s.dataBuf = true →
    let r := s.cfg.regmap
    let stop := if s.lora.rxContinuous then [] else [Event.timerCancel]
    let start := [writeOf r.lrIrqFlags r.lrRxDone, readOf r.lrIrqFlags (answer s 0)]
    let snr : Int := match s.cfg.snrWidth with
      | .w8 => (answer s 1).toInt.tdiv 4
      | .w4 => ((answer s 1).setWidth 4).toInt.tdiv 4
    let rssi : Int := s.cfg.rssiOffset + (answer s 2).toNat + (if snr < 0 then snr else 0)
    let ph := { s.loraPh with snrValue := BitVec.ofInt 8 snr, rssiValue := rssiField rssi }
    let readings := [readOf r.lrPktSnrValue (answer s 1), readOf r.lrPktRssiValue (answer s 2),
      readOf r.lrRxNbBytes (answer s 3)]
    let len := (answer s 3).toNat
    let bytes := answersFrom s 5 len
    (flagSet (answer s 0) r.lrPayloadCrcError = true → exec .dio0Irq s =
      .next ((s.after 1 (start ++ writeOf r.lrIrqFlags r.lrPayloadCrcError :: stop
        ++ callbackEvents s.cbSet .rxError)).received s.lora.rxContinuous)) ∧
    (flagSet (answer s 0) r.lrPayloadCrcError = false → len > s.cfg.maxDataBufferSize → exec .dio0Irq s =
      .next { (s.after 4 (start ++ readings ++ stop ++ callbackEvents s.cbSet .rxError)).received s.lora.rxContinuous with
        loraPh := ph }) ∧
    (flagSet (answer s 0) r.lrPayloadCrcError = false → len ≤ s.cfg.maxDataBufferSize →
      ∃ t, exec .dio0Irq s = .next t ∧
        t = { (s.after (5 + len) (start ++ readings ++ [readOf r.lrFifoRxCurrentAddr (answer s 4),
            writeOf r.lrFifoAddrPtr (answer s 4)] ++ fifoReadOf bytes ++ stop
            ++ callbackEvents s.cbSet (.rxDone (BitVec.ofNat 16 len) (rssiField rssi) (BitVec.ofInt 8 snr)
                bytes))).received s.lora.rxContinuous with
          dataBuf := t.dataBuf, loraPh := { ph with size := answer s 3 } } ∧
        ∀ a, Memory.read t.dataBuf a = if a < len then bytes.getD a 0 else Memory.read s.dataBuf a) ∧
    (-32000 < s.cfg.rssiOffset → s.cfg.rssiOffset < 32000 → (rssiField rssi).toInt = rssi)

/-- R193: the FIFO-level bursts of FSK: on reception the length if not yet known, then at most `fifo_thresh` bytes into the
buffer at `nb_bytes`; on transmission the next chunk out of the buffer. No callback, `S.state` unchanged. -/
def Obligations.FskBursts : Prop :=
  ∀ s : State, Inv s → s.modem = .fsk →
    (s.state = .rxRunning →
      let known := !lengthUnknown s
      let size := if known then s.fskPh.size.toNat else (answer s 0).toNat
      size ≤ s.cfg.maxDataBufferSize →
      let k := if known then 0 else 1
      let first := s.fskPh.nbBytes.toNat
      let n := min (size - first) s.fskPh.fifoThresh.toNat
      let bytes := answersFrom s k n
      ∃ t, exec .dio1Irq s = .next t ∧
        t = { s.after (k + n) ((if known then [] else lengthEvents s (answer s 0)) ++ fifoReadOf bytes) with
          dataBuf := t.dataBuf,
          fskPh := { s.fskPh with size := BitVec.ofNat 16 size, nbBytes := BitVec.ofNat 16 (first + n) } } ∧
        ∀ a, Memory.read t.dataBuf a =
          if first ≤ a ∧ a < first + n then bytes.getD (a - first) 0 else Memory.read s.dataBuf a) ∧
    (s.state = .txRunning →
      let first := s.fskPh.nbBytes.toNat
      let n := min (s.fskPh.size.toNat - first) s.fskPh.chunkSize.toNat
      exec .dio1Irq s = .next { s.after 0 (fifoWriteOf ((List.range n).map (fun j => Memory.read s.dataBuf (first + j)))) with
        fskPh := { s.fskPh with nbBytes := BitVec.ofNat 16 (first + n) } })

/-- R192, R194: transmission done (the LoRa flag cleared between the two steps of `GoIdle`), and the LoRa reception timeout,
whatever the continuous flag is. -/
def Obligations.TxDoneAndRxTimeout : Prop :=
  ∀ s : State,
    (s.state = .txRunning → exec .dio0Irq s = .next { s.after 0 (.timerCancel ::
        (if s.modem = .lora then [writeOf s.cfg.regmap.lrIrqFlags s.cfg.regmap.lrTxDone] else [])
        ++ callbackEvents s.cbSet .txDone) with state := .idle, timer := .disarmed }) ∧
    (s.state = .rxRunning → s.modem = .lora → exec .dio1Irq s = .next { s.after 0
        ([writeOf s.cfg.regmap.lrIrqFlags s.cfg.regmap.lrRxTimeout, .timerCancel]
        ++ callbackEvents s.cbSet .rxTimeout) with state := .idle, timer := .disarmed })

/-- R195 to R198, R201: the FSK timeout, the hop notification, the CAD result, the preamble latch, and the event no modem
uses. -/
def Obligations.OtherLines : Prop :=
  ∀ s : State,
    (s.state = .rxRunning → s.modem = .fsk → exec .dio2Irq s = .next
      { (s.after (abortReads s) (seqEvents (answer s) 0 s.cfg.chipSeq.fskRxAbortClear
          ++ fskEndEvents s (seqReads s.cfg.chipSeq.fskRxAbortClear)
          ++ callbackEvents s.cbSet .rxTimeout)).received s.fsk.rxContinuous with fskPh := clearedPacket s.fskPh }) ∧
    (s.state = .rxRunning ∨ s.state = .txRunning → s.modem = .lora → s.lora.freqHopOn = true →
      exec .dio2Irq s = .next (s.after 1 ([writeOf s.cfg.regmap.lrIrqFlags s.cfg.regmap.lrFhssChangedChannel,
        readOf s.cfg.regmap.lrHopChannel (answer s 0)]
        ++ callbackEvents s.cbSet (.fhssChangeChannel (answer s 0 &&& s.cfg.regmap.hopChannelMask))))) ∧
    (s.modem = .lora → let detected := flagSet (answer s 0) s.cfg.regmap.lrCadDetected
      let ev := [readOf s.cfg.regmap.lrIrqFlags (answer s 0), writeOf s.cfg.regmap.lrIrqFlags
        (if detected then s.cfg.regmap.lrCadDetected ||| s.cfg.regmap.lrCadDone else s.cfg.regmap.lrCadDone)]
      (s.state = .cad → exec .dio3Irq s = .next { s.after 1 (ev ++ .timerCancel ::
        callbackEvents s.cbSet (.cadDone detected)) with state := .idle, timer := .disarmed }) ∧
      (s.state ≠ .cad → exec .dio3Irq s = .next (s.after 1 (ev ++ callbackEvents s.cbSet (.cadDone detected))))) ∧
    (s.modem = .fsk → exec .dio3Irq s = .next s ∧
      exec .dio4Irq s = .next { s with fskPh := { s.fskPh with preambleDetected := true } }) ∧
    (s.modem = .lora → exec .dio4Irq s = .next s) ∧
    exec .dio5Irq s = .next s

/-- R199: the timeout in `TxRunning` runs the full recovery and ends `Idle` with the timer disarmed, LoRa selected and the sync
word of the stored setting written; no configuration, packet, buffer or channel field changes. In every other state it does
nothing. -/
def Obligations.TimeoutRecovery : Prop :=
  ∀ s : State,
    (s.state = .txRunning →
      let a := { s.after 1 (.timerCancel :: modeEvents s.cfg (answer s) 0 .sleep) with
        timer := .disarmed, gpio := pinsDriven s.cfg.wiring (lowPowerPins s.cfg.wiring) s.gpio }
      let m := (a.withDefaults.withModem .fsk).withModem .lora
      let t := { m.after 0 (writeOf s.cfg.regmap.lrSyncWord
          (if s.lora.publicNetwork then s.cfg.syncwordPublic else s.cfg.syncwordPrivate)
          :: callbackEvents s.cbSet .txTimeout) with state := .idle }
      exec .timeoutIrq s = .next t ∧
        t = { s with
          state := .idle, timer := .disarmed, modem := .lora, gpio := t.gpio, answers := t.answers,
          reads := t.reads, hist := t.hist }) ∧
    (s.state ≠ .txRunning → exec .timeoutIrq s = .next s)
end

