-- ==== Sys2Proof/Laws/Bytes.lean ====
section
/-! SUPPORT. The byte orders of the encodings: what is written byte by byte is read back. -/

namespace Sys2Proof

/-- A `u16` read from its two bytes, least significant first (R55). -/
theorem u16_of_bytes (v : Half) : v.extractLsb' 8 8 ++ v.extractLsb' 0 8 = v := by
  apply BitVec.eq_of_getLsbD_eq
  intro i hi
  simp only [BitVec.getLsbD_append, BitVec.getLsbD_extractLsb']
  by_cases h : i < 8
  · simp [h]
  · rw [if_neg h, show 8 + (i - 8) = i by omega]
    simp [show i - 8 < 8 by omega]

/-- A `u32` read from its four bytes, least significant first (R55). -/
theorem u32_of_bytes (v : Word) : (v.extractLsb' 24 8 ++ v.extractLsb' 16 8) ++
    (v.extractLsb' 8 8 ++ v.extractLsb' 0 8) = v := by
  apply BitVec.eq_of_getLsbD_eq
  intro i hi
  simp only [BitVec.getLsbD_append, BitVec.getLsbD_extractLsb']
  by_cases h1 : i < 16
  · by_cases h2 : i < 8
    · simp [h1, h2]
    · rw [if_pos h1, if_neg h2, show 8 + (i - 8) = i by omega]
      simp [show i - 8 < 8 by omega]
  · by_cases h2 : i - 16 < 8
    · rw [if_neg h1, if_pos h2, show 16 + (i - 16) = i by omega]
      simp [h2]
    · rw [if_neg h1, if_neg h2, show 24 + (i - 16 - 8) = i by omega]
      simp [show i - 16 - 8 < 8 by omega]

/-- A natural operand of the call encoding is read back where it fits four bytes. -/
theorem nat_of_bytes {n : Nat} (h : n < 2 ^ 32) : (BitVec.ofNat 32 n).toNat = n := by
  rw [BitVec.toNat_ofNat, Nat.mod_eq_of_lt h]

@[simp] theorem boolByte_ne_zero (b : Bool) : (boolByte b != 0) = b := by cases b <;> rfl

@[simp] theorem ModemKind.ofByte_code (m : ModemKind) : ModemKind.ofByte m.code = some m := by cases m <;> rfl

@[simp] theorem OpMode.ofByte_code (m : OpMode) : OpMode.ofByte m.code = some m := by cases m <;> rfl

@[simp] theorem PaPath.ofByte_code (p : PaPath) : PaPath.ofByte p.code = some p := by cases p <;> rfl

theorem busAddressByte_write (w : Bool) (a : Addr) : (busAddressByte w a).getLsbD 7 = w := by
  rw [busAddressByte, BitVec.getLsbD_append, if_neg (by omega)]
  cases w <;> rfl

theorem busAddressByte_addr (w : Bool) (a : Addr) : (busAddressByte w a).setWidth 7 = a := by
  apply BitVec.eq_of_getLsbD_eq
  intro i hi
  rw [busAddressByte, BitVec.getLsbD_setWidth, BitVec.getLsbD_append, if_pos hi]
  simp [hi]

end Sys2Proof
end

