-- ==== Sys2Proof/Laws/State.lean ====
section
/-! SUPPORT. One lemma per field per update of the state: what each primitive operation leaves in each field. -/

namespace Sys2Proof.Machine


@[simp] theorem State.after_cfg (n : Nat) (l : List Event) (s : State) : (s.after n l).cfg = s.cfg := rfl
@[simp] theorem State.after_state (n : Nat) (l : List Event) (s : State) : (s.after n l).state = s.state := rfl
@[simp] theorem State.after_modem (n : Nat) (l : List Event) (s : State) : (s.after n l).modem = s.modem := rfl
@[simp] theorem State.after_channel (n : Nat) (l : List Event) (s : State) : (s.after n l).channel = s.channel := rfl
@[simp] theorem State.after_fsk (n : Nat) (l : List Event) (s : State) : (s.after n l).fsk = s.fsk := rfl
@[simp] theorem State.after_lora (n : Nat) (l : List Event) (s : State) : (s.after n l).lora = s.lora := rfl
@[simp] theorem State.after_fskPh (n : Nat) (l : List Event) (s : State) : (s.after n l).fskPh = s.fskPh := rfl
@[simp] theorem State.after_loraPh (n : Nat) (l : List Event) (s : State) : (s.after n l).loraPh = s.loraPh := rfl
@[simp] theorem State.after_dataBuf (n : Nat) (l : List Event) (s : State) : (s.after n l).dataBuf = s.dataBuf := rfl
@[simp] theorem State.after_pending (n : Nat) (l : List Event) (s : State) : (s.after n l).pending = s.pending := rfl
@[simp] theorem State.after_worker (n : Nat) (l : List Event) (s : State) : (s.after n l).worker = s.worker := rfl
@[simp] theorem State.after_lock (n : Nat) (l : List Event) (s : State) : (s.after n l).lock = s.lock := rfl
@[simp] theorem State.after_timer (n : Nat) (l : List Event) (s : State) : (s.after n l).timer = s.timer := rfl
@[simp] theorem State.after_gpio (n : Nat) (l : List Event) (s : State) : (s.after n l).gpio = s.gpio := rfl
@[simp] theorem State.after_rst (n : Nat) (l : List Event) (s : State) : (s.after n l).rst = s.rst := rfl
@[simp] theorem State.after_irqArmed (n : Nat) (l : List Event) (s : State) : (s.after n l).irqArmed = s.irqArmed := rfl
@[simp] theorem State.after_cbSet (n : Nat) (l : List Event) (s : State) : (s.after n l).cbSet = s.cbSet := rfl
@[simp] theorem State.after_inputs (n : Nat) (l : List Event) (s : State) : (s.after n l).inputs = s.inputs := rfl
@[simp] theorem State.after_answers (n : Nat) (l : List Event) (s : State) : (s.after n l).answers = s.answers.drop n := rfl
@[simp] theorem State.after_reads (n : Nat) (l : List Event) (s : State) : (s.after n l).reads = s.reads + n := rfl
@[simp] theorem State.after_draws (n : Nat) (l : List Event) (s : State) : (s.after n l).draws = s.draws := rfl
@[simp] theorem State.after_drawn (n : Nat) (l : List Event) (s : State) : (s.after n l).drawn = s.drawn := rfl
@[simp] theorem State.after_hist (n : Nat) (l : List Event) (s : State) : (s.after n l).hist = s.hist ++ l := rfl
@[simp] theorem State.after_ret (n : Nat) (l : List Event) (s : State) : (s.after n l).ret = s.ret := rfl

@[simp] theorem record_cfg (e : Event) (s : State) : (record e s).cfg = s.cfg := rfl
@[simp] theorem record_state (e : Event) (s : State) : (record e s).state = s.state := rfl
@[simp] theorem record_modem (e : Event) (s : State) : (record e s).modem = s.modem := rfl
@[simp] theorem record_channel (e : Event) (s : State) : (record e s).channel = s.channel := rfl
@[simp] theorem record_fsk (e : Event) (s : State) : (record e s).fsk = s.fsk := rfl
@[simp] theorem record_lora (e : Event) (s : State) : (record e s).lora = s.lora := rfl
@[simp] theorem record_fskPh (e : Event) (s : State) : (record e s).fskPh = s.fskPh := rfl
@[simp] theorem record_loraPh (e : Event) (s : State) : (record e s).loraPh = s.loraPh := rfl
@[simp] theorem record_dataBuf (e : Event) (s : State) : (record e s).dataBuf = s.dataBuf := rfl
@[simp] theorem record_pending (e : Event) (s : State) : (record e s).pending = s.pending := rfl
@[simp] theorem record_worker (e : Event) (s : State) : (record e s).worker = s.worker := rfl
@[simp] theorem record_lock (e : Event) (s : State) : (record e s).lock = s.lock := rfl
@[simp] theorem record_timer (e : Event) (s : State) : (record e s).timer = s.timer := rfl
@[simp] theorem record_gpio (e : Event) (s : State) : (record e s).gpio = s.gpio := rfl
@[simp] theorem record_rst (e : Event) (s : State) : (record e s).rst = s.rst := rfl
@[simp] theorem record_irqArmed (e : Event) (s : State) : (record e s).irqArmed = s.irqArmed := rfl
@[simp] theorem record_cbSet (e : Event) (s : State) : (record e s).cbSet = s.cbSet := rfl
@[simp] theorem record_inputs (e : Event) (s : State) : (record e s).inputs = s.inputs := rfl
@[simp] theorem record_answers (e : Event) (s : State) : (record e s).answers = s.answers := rfl
@[simp] theorem record_reads (e : Event) (s : State) : (record e s).reads = s.reads := rfl
@[simp] theorem record_draws (e : Event) (s : State) : (record e s).draws = s.draws := rfl
@[simp] theorem record_drawn (e : Event) (s : State) : (record e s).drawn = s.drawn := rfl
@[simp] theorem record_hist (e : Event) (s : State) : (record e s).hist = s.hist ++ [e] := rfl
@[simp] theorem record_ret (e : Event) (s : State) : (record e s).ret = s.ret := rfl

@[simp] theorem wait_cfg (n : Nat) (s : State) : (wait n s).cfg = s.cfg := rfl
@[simp] theorem wait_state (n : Nat) (s : State) : (wait n s).state = s.state := rfl
@[simp] theorem wait_modem (n : Nat) (s : State) : (wait n s).modem = s.modem := rfl
@[simp] theorem wait_channel (n : Nat) (s : State) : (wait n s).channel = s.channel := rfl
@[simp] theorem wait_fsk (n : Nat) (s : State) : (wait n s).fsk = s.fsk := rfl
@[simp] theorem wait_lora (n : Nat) (s : State) : (wait n s).lora = s.lora := rfl
@[simp] theorem wait_fskPh (n : Nat) (s : State) : (wait n s).fskPh = s.fskPh := rfl
@[simp] theorem wait_loraPh (n : Nat) (s : State) : (wait n s).loraPh = s.loraPh := rfl
@[simp] theorem wait_dataBuf (n : Nat) (s : State) : (wait n s).dataBuf = s.dataBuf := rfl
@[simp] theorem wait_pending (n : Nat) (s : State) : (wait n s).pending = s.pending := rfl
@[simp] theorem wait_worker (n : Nat) (s : State) : (wait n s).worker = s.worker := rfl
@[simp] theorem wait_lock (n : Nat) (s : State) : (wait n s).lock = s.lock := rfl
@[simp] theorem wait_timer (n : Nat) (s : State) : (wait n s).timer = s.timer := rfl
@[simp] theorem wait_gpio (n : Nat) (s : State) : (wait n s).gpio = s.gpio := rfl
@[simp] theorem wait_rst (n : Nat) (s : State) : (wait n s).rst = s.rst := rfl
@[simp] theorem wait_irqArmed (n : Nat) (s : State) : (wait n s).irqArmed = s.irqArmed := rfl
@[simp] theorem wait_cbSet (n : Nat) (s : State) : (wait n s).cbSet = s.cbSet := rfl
@[simp] theorem wait_inputs (n : Nat) (s : State) : (wait n s).inputs = s.inputs := rfl
@[simp] theorem wait_answers (n : Nat) (s : State) : (wait n s).answers = s.answers := rfl
@[simp] theorem wait_reads (n : Nat) (s : State) : (wait n s).reads = s.reads := rfl
@[simp] theorem wait_draws (n : Nat) (s : State) : (wait n s).draws = s.draws := rfl
@[simp] theorem wait_drawn (n : Nat) (s : State) : (wait n s).drawn = s.drawn := rfl
@[simp] theorem wait_hist (n : Nat) (s : State) : (wait n s).hist = s.hist ++ [.wait n] := rfl
@[simp] theorem wait_ret (n : Nat) (s : State) : (wait n s).ret = s.ret := rfl

@[simp] theorem regWrite_cfg (a : Addr) (v : Byte) (s : State) : (regWrite a v s).cfg = s.cfg := rfl
@[simp] theorem regWrite_state (a : Addr) (v : Byte) (s : State) : (regWrite a v s).state = s.state := rfl
@[simp] theorem regWrite_modem (a : Addr) (v : Byte) (s : State) : (regWrite a v s).modem = s.modem := rfl
@[simp] theorem regWrite_channel (a : Addr) (v : Byte) (s : State) : (regWrite a v s).channel = s.channel := rfl
@[simp] theorem regWrite_fsk (a : Addr) (v : Byte) (s : State) : (regWrite a v s).fsk = s.fsk := rfl
@[simp] theorem regWrite_lora (a : Addr) (v : Byte) (s : State) : (regWrite a v s).lora = s.lora := rfl
@[simp] theorem regWrite_fskPh (a : Addr) (v : Byte) (s : State) : (regWrite a v s).fskPh = s.fskPh := rfl
@[simp] theorem regWrite_loraPh (a : Addr) (v : Byte) (s : State) : (regWrite a v s).loraPh = s.loraPh := rfl
@[simp] theorem regWrite_dataBuf (a : Addr) (v : Byte) (s : State) : (regWrite a v s).dataBuf = s.dataBuf := rfl
@[simp] theorem regWrite_pending (a : Addr) (v : Byte) (s : State) : (regWrite a v s).pending = s.pending := rfl
@[simp] theorem regWrite_worker (a : Addr) (v : Byte) (s : State) : (regWrite a v s).worker = s.worker := rfl
@[simp] theorem regWrite_lock (a : Addr) (v : Byte) (s : State) : (regWrite a v s).lock = s.lock := rfl
@[simp] theorem regWrite_timer (a : Addr) (v : Byte) (s : State) : (regWrite a v s).timer = s.timer := rfl
@[simp] theorem regWrite_gpio (a : Addr) (v : Byte) (s : State) : (regWrite a v s).gpio = s.gpio := rfl
@[simp] theorem regWrite_rst (a : Addr) (v : Byte) (s : State) : (regWrite a v s).rst = s.rst := rfl
@[simp] theorem regWrite_irqArmed (a : Addr) (v : Byte) (s : State) : (regWrite a v s).irqArmed = s.irqArmed := rfl
@[simp] theorem regWrite_cbSet (a : Addr) (v : Byte) (s : State) : (regWrite a v s).cbSet = s.cbSet := rfl
@[simp] theorem regWrite_inputs (a : Addr) (v : Byte) (s : State) : (regWrite a v s).inputs = s.inputs := rfl
@[simp] theorem regWrite_answers (a : Addr) (v : Byte) (s : State) : (regWrite a v s).answers = s.answers := rfl
@[simp] theorem regWrite_reads (a : Addr) (v : Byte) (s : State) : (regWrite a v s).reads = s.reads := rfl
@[simp] theorem regWrite_draws (a : Addr) (v : Byte) (s : State) : (regWrite a v s).draws = s.draws := rfl
@[simp] theorem regWrite_drawn (a : Addr) (v : Byte) (s : State) : (regWrite a v s).drawn = s.drawn := rfl
@[simp] theorem regWrite_hist (a : Addr) (v : Byte) (s : State) : (regWrite a v s).hist = s.hist ++ [.busWrite a [v]] := rfl
@[simp] theorem regWrite_ret (a : Addr) (v : Byte) (s : State) : (regWrite a v s).ret = s.ret := rfl

@[simp] theorem regRead_snd_cfg (a : Addr) (s : State) : ((regRead a s).2).cfg = s.cfg := rfl
@[simp] theorem regRead_snd_state (a : Addr) (s : State) : ((regRead a s).2).state = s.state := rfl
@[simp] theorem regRead_snd_modem (a : Addr) (s : State) : ((regRead a s).2).modem = s.modem := rfl
@[simp] theorem regRead_snd_channel (a : Addr) (s : State) : ((regRead a s).2).channel = s.channel := rfl
@[simp] theorem regRead_snd_fsk (a : Addr) (s : State) : ((regRead a s).2).fsk = s.fsk := rfl
@[simp] theorem regRead_snd_lora (a : Addr) (s : State) : ((regRead a s).2).lora = s.lora := rfl
@[simp] theorem regRead_snd_fskPh (a : Addr) (s : State) : ((regRead a s).2).fskPh = s.fskPh := rfl
@[simp] theorem regRead_snd_loraPh (a : Addr) (s : State) : ((regRead a s).2).loraPh = s.loraPh := rfl
@[simp] theorem regRead_snd_dataBuf (a : Addr) (s : State) : ((regRead a s).2).dataBuf = s.dataBuf := rfl
@[simp] theorem regRead_snd_pending (a : Addr) (s : State) : ((regRead a s).2).pending = s.pending := rfl
@[simp] theorem regRead_snd_worker (a : Addr) (s : State) : ((regRead a s).2).worker = s.worker := rfl
@[simp] theorem regRead_snd_lock (a : Addr) (s : State) : ((regRead a s).2).lock = s.lock := rfl
@[simp] theorem regRead_snd_timer (a : Addr) (s : State) : ((regRead a s).2).timer = s.timer := rfl
@[simp] theorem regRead_snd_gpio (a : Addr) (s : State) : ((regRead a s).2).gpio = s.gpio := rfl
@[simp] theorem regRead_snd_rst (a : Addr) (s : State) : ((regRead a s).2).rst = s.rst := rfl
@[simp] theorem regRead_snd_irqArmed (a : Addr) (s : State) : ((regRead a s).2).irqArmed = s.irqArmed := rfl
@[simp] theorem regRead_snd_cbSet (a : Addr) (s : State) : ((regRead a s).2).cbSet = s.cbSet := rfl
@[simp] theorem regRead_snd_inputs (a : Addr) (s : State) : ((regRead a s).2).inputs = s.inputs := rfl
@[simp] theorem regRead_snd_answers (a : Addr) (s : State) : ((regRead a s).2).answers = s.answers.drop 1 := rfl
@[simp] theorem regRead_snd_reads (a : Addr) (s : State) : ((regRead a s).2).reads = s.reads + 1 := rfl
@[simp] theorem regRead_snd_draws (a : Addr) (s : State) : ((regRead a s).2).draws = s.draws := rfl
@[simp] theorem regRead_snd_drawn (a : Addr) (s : State) : ((regRead a s).2).drawn = s.drawn := rfl
@[simp] theorem regRead_snd_hist (a : Addr) (s : State) : ((regRead a s).2).hist = s.hist ++ [.busRead a [answer s 0]] := rfl
@[simp] theorem regRead_snd_ret (a : Addr) (s : State) : ((regRead a s).2).ret = s.ret := rfl

@[simp] theorem regSet_cfg (a : Addr) (m o : Byte) (s : State) : (regSet a m o s).cfg = s.cfg := rfl
@[simp] theorem regSet_state (a : Addr) (m o : Byte) (s : State) : (regSet a m o s).state = s.state := rfl
@[simp] theorem regSet_modem (a : Addr) (m o : Byte) (s : State) : (regSet a m o s).modem = s.modem := rfl
@[simp] theorem regSet_channel (a : Addr) (m o : Byte) (s : State) : (regSet a m o s).channel = s.channel := rfl
@[simp] theorem regSet_fsk (a : Addr) (m o : Byte) (s : State) : (regSet a m o s).fsk = s.fsk := rfl
@[simp] theorem regSet_lora (a : Addr) (m o : Byte) (s : State) : (regSet a m o s).lora = s.lora := rfl
@[simp] theorem regSet_fskPh (a : Addr) (m o : Byte) (s : State) : (regSet a m o s).fskPh = s.fskPh := rfl
@[simp] theorem regSet_loraPh (a : Addr) (m o : Byte) (s : State) : (regSet a m o s).loraPh = s.loraPh := rfl
@[simp] theorem regSet_dataBuf (a : Addr) (m o : Byte) (s : State) : (regSet a m o s).dataBuf = s.dataBuf := rfl
@[simp] theorem regSet_pending (a : Addr) (m o : Byte) (s : State) : (regSet a m o s).pending = s.pending := rfl
@[simp] theorem regSet_worker (a : Addr) (m o : Byte) (s : State) : (regSet a m o s).worker = s.worker := rfl
@[simp] theorem regSet_lock (a : Addr) (m o : Byte) (s : State) : (regSet a m o s).lock = s.lock := rfl
@[simp] theorem regSet_timer (a : Addr) (m o : Byte) (s : State) : (regSet a m o s).timer = s.timer := rfl
@[simp] theorem regSet_gpio (a : Addr) (m o : Byte) (s : State) : (regSet a m o s).gpio = s.gpio := rfl
@[simp] theorem regSet_rst (a : Addr) (m o : Byte) (s : State) : (regSet a m o s).rst = s.rst := rfl
@[simp] theorem regSet_irqArmed (a : Addr) (m o : Byte) (s : State) : (regSet a m o s).irqArmed = s.irqArmed := rfl
@[simp] theorem regSet_cbSet (a : Addr) (m o : Byte) (s : State) : (regSet a m o s).cbSet = s.cbSet := rfl
@[simp] theorem regSet_inputs (a : Addr) (m o : Byte) (s : State) : (regSet a m o s).inputs = s.inputs := rfl
@[simp] theorem regSet_answers (a : Addr) (m o : Byte) (s : State) : (regSet a m o s).answers = s.answers.drop 1 := rfl
@[simp] theorem regSet_reads (a : Addr) (m o : Byte) (s : State) : (regSet a m o s).reads = s.reads + 1 := rfl
@[simp] theorem regSet_draws (a : Addr) (m o : Byte) (s : State) : (regSet a m o s).draws = s.draws := rfl
@[simp] theorem regSet_drawn (a : Addr) (m o : Byte) (s : State) : (regSet a m o s).drawn = s.drawn := rfl
@[simp] theorem regSet_hist (a : Addr) (m o : Byte) (s : State) : (regSet a m o s).hist = (s.hist ++ [.busRead a [answer s 0]]) ++ [.busWrite a [(answer s 0 &&& m) ||| o]] := rfl
@[simp] theorem regSet_ret (a : Addr) (m o : Byte) (s : State) : (regSet a m o s).ret = s.ret := rfl

@[simp] theorem timerStart_cfg (ms : Word) (s : State) : (timerStart ms s).cfg = s.cfg := rfl
@[simp] theorem timerStart_state (ms : Word) (s : State) : (timerStart ms s).state = s.state := rfl
@[simp] theorem timerStart_modem (ms : Word) (s : State) : (timerStart ms s).modem = s.modem := rfl
@[simp] theorem timerStart_channel (ms : Word) (s : State) : (timerStart ms s).channel = s.channel := rfl
@[simp] theorem timerStart_fsk (ms : Word) (s : State) : (timerStart ms s).fsk = s.fsk := rfl
@[simp] theorem timerStart_lora (ms : Word) (s : State) : (timerStart ms s).lora = s.lora := rfl
@[simp] theorem timerStart_fskPh (ms : Word) (s : State) : (timerStart ms s).fskPh = s.fskPh := rfl
@[simp] theorem timerStart_loraPh (ms : Word) (s : State) : (timerStart ms s).loraPh = s.loraPh := rfl
@[simp] theorem timerStart_dataBuf (ms : Word) (s : State) : (timerStart ms s).dataBuf = s.dataBuf := rfl
@[simp] theorem timerStart_pending (ms : Word) (s : State) : (timerStart ms s).pending = s.pending := rfl
@[simp] theorem timerStart_worker (ms : Word) (s : State) : (timerStart ms s).worker = s.worker := rfl
@[simp] theorem timerStart_lock (ms : Word) (s : State) : (timerStart ms s).lock = s.lock := rfl
@[simp] theorem timerStart_timer (ms : Word) (s : State) : (timerStart ms s).timer = .armed ms := rfl
@[simp] theorem timerStart_gpio (ms : Word) (s : State) : (timerStart ms s).gpio = s.gpio := rfl
@[simp] theorem timerStart_rst (ms : Word) (s : State) : (timerStart ms s).rst = s.rst := rfl
@[simp] theorem timerStart_irqArmed (ms : Word) (s : State) : (timerStart ms s).irqArmed = s.irqArmed := rfl
@[simp] theorem timerStart_cbSet (ms : Word) (s : State) : (timerStart ms s).cbSet = s.cbSet := rfl
@[simp] theorem timerStart_inputs (ms : Word) (s : State) : (timerStart ms s).inputs = s.inputs := rfl
@[simp] theorem timerStart_answers (ms : Word) (s : State) : (timerStart ms s).answers = s.answers := rfl
@[simp] theorem timerStart_reads (ms : Word) (s : State) : (timerStart ms s).reads = s.reads := rfl
@[simp] theorem timerStart_draws (ms : Word) (s : State) : (timerStart ms s).draws = s.draws := rfl
@[simp] theorem timerStart_drawn (ms : Word) (s : State) : (timerStart ms s).drawn = s.drawn := rfl
@[simp] theorem timerStart_hist (ms : Word) (s : State) : (timerStart ms s).hist = s.hist ++ [.timerStart ms] := rfl
@[simp] theorem timerStart_ret (ms : Word) (s : State) : (timerStart ms s).ret = s.ret := rfl

@[simp] theorem timerCancel_cfg (s : State) : (timerCancel s).cfg = s.cfg := rfl
@[simp] theorem timerCancel_state (s : State) : (timerCancel s).state = s.state := rfl
@[simp] theorem timerCancel_modem (s : State) : (timerCancel s).modem = s.modem := rfl
@[simp] theorem timerCancel_channel (s : State) : (timerCancel s).channel = s.channel := rfl
@[simp] theorem timerCancel_fsk (s : State) : (timerCancel s).fsk = s.fsk := rfl
@[simp] theorem timerCancel_lora (s : State) : (timerCancel s).lora = s.lora := rfl
@[simp] theorem timerCancel_fskPh (s : State) : (timerCancel s).fskPh = s.fskPh := rfl
@[simp] theorem timerCancel_loraPh (s : State) : (timerCancel s).loraPh = s.loraPh := rfl
@[simp] theorem timerCancel_dataBuf (s : State) : (timerCancel s).dataBuf = s.dataBuf := rfl
@[simp] theorem timerCancel_pending (s : State) : (timerCancel s).pending = s.pending := rfl
@[simp] theorem timerCancel_worker (s : State) : (timerCancel s).worker = s.worker := rfl
@[simp] theorem timerCancel_lock (s : State) : (timerCancel s).lock = s.lock := rfl
@[simp] theorem timerCancel_timer (s : State) : (timerCancel s).timer = .disarmed := rfl
@[simp] theorem timerCancel_gpio (s : State) : (timerCancel s).gpio = s.gpio := rfl
@[simp] theorem timerCancel_rst (s : State) : (timerCancel s).rst = s.rst := rfl
@[simp] theorem timerCancel_irqArmed (s : State) : (timerCancel s).irqArmed = s.irqArmed := rfl
@[simp] theorem timerCancel_cbSet (s : State) : (timerCancel s).cbSet = s.cbSet := rfl
@[simp] theorem timerCancel_inputs (s : State) : (timerCancel s).inputs = s.inputs := rfl
@[simp] theorem timerCancel_answers (s : State) : (timerCancel s).answers = s.answers := rfl
@[simp] theorem timerCancel_reads (s : State) : (timerCancel s).reads = s.reads := rfl
@[simp] theorem timerCancel_draws (s : State) : (timerCancel s).draws = s.draws := rfl
@[simp] theorem timerCancel_drawn (s : State) : (timerCancel s).drawn = s.drawn := rfl
@[simp] theorem timerCancel_hist (s : State) : (timerCancel s).hist = s.hist ++ [.timerCancel] := rfl
@[simp] theorem timerCancel_ret (s : State) : (timerCancel s).ret = s.ret := rfl

@[simp] theorem goIdle_cfg (s : State) : (goIdle s).cfg = s.cfg := rfl
@[simp] theorem goIdle_state (s : State) : (goIdle s).state = .idle := rfl
@[simp] theorem goIdle_modem (s : State) : (goIdle s).modem = s.modem := rfl
@[simp] theorem goIdle_channel (s : State) : (goIdle s).channel = s.channel := rfl
@[simp] theorem goIdle_fsk (s : State) : (goIdle s).fsk = s.fsk := rfl
@[simp] theorem goIdle_lora (s : State) : (goIdle s).lora = s.lora := rfl
@[simp] theorem goIdle_fskPh (s : State) : (goIdle s).fskPh = s.fskPh := rfl
@[simp] theorem goIdle_loraPh (s : State) : (goIdle s).loraPh = s.loraPh := rfl
@[simp] theorem goIdle_dataBuf (s : State) : (goIdle s).dataBuf = s.dataBuf := rfl
@[simp] theorem goIdle_pending (s : State) : (goIdle s).pending = s.pending := rfl
@[simp] theorem goIdle_worker (s : State) : (goIdle s).worker = s.worker := rfl
@[simp] theorem goIdle_lock (s : State) : (goIdle s).lock = s.lock := rfl
@[simp] theorem goIdle_timer (s : State) : (goIdle s).timer = .disarmed := rfl
@[simp] theorem goIdle_gpio (s : State) : (goIdle s).gpio = s.gpio := rfl
@[simp] theorem goIdle_rst (s : State) : (goIdle s).rst = s.rst := rfl
@[simp] theorem goIdle_irqArmed (s : State) : (goIdle s).irqArmed = s.irqArmed := rfl
@[simp] theorem goIdle_cbSet (s : State) : (goIdle s).cbSet = s.cbSet := rfl
@[simp] theorem goIdle_inputs (s : State) : (goIdle s).inputs = s.inputs := rfl
@[simp] theorem goIdle_answers (s : State) : (goIdle s).answers = s.answers := rfl
@[simp] theorem goIdle_reads (s : State) : (goIdle s).reads = s.reads := rfl
@[simp] theorem goIdle_draws (s : State) : (goIdle s).draws = s.draws := rfl
@[simp] theorem goIdle_drawn (s : State) : (goIdle s).drawn = s.drawn := rfl
@[simp] theorem goIdle_hist (s : State) : (goIdle s).hist = s.hist ++ [.timerCancel] := rfl
@[simp] theorem goIdle_ret (s : State) : (goIdle s).ret = s.ret := rfl

@[simp] theorem respond_cfg (l : List Byte) (s : State) : (respond l s).cfg = s.cfg := rfl
@[simp] theorem respond_state (l : List Byte) (s : State) : (respond l s).state = s.state := rfl
@[simp] theorem respond_modem (l : List Byte) (s : State) : (respond l s).modem = s.modem := rfl
@[simp] theorem respond_channel (l : List Byte) (s : State) : (respond l s).channel = s.channel := rfl
@[simp] theorem respond_fsk (l : List Byte) (s : State) : (respond l s).fsk = s.fsk := rfl
@[simp] theorem respond_lora (l : List Byte) (s : State) : (respond l s).lora = s.lora := rfl
@[simp] theorem respond_fskPh (l : List Byte) (s : State) : (respond l s).fskPh = s.fskPh := rfl
@[simp] theorem respond_loraPh (l : List Byte) (s : State) : (respond l s).loraPh = s.loraPh := rfl
@[simp] theorem respond_dataBuf (l : List Byte) (s : State) : (respond l s).dataBuf = s.dataBuf := rfl
@[simp] theorem respond_pending (l : List Byte) (s : State) : (respond l s).pending = s.pending := rfl
@[simp] theorem respond_worker (l : List Byte) (s : State) : (respond l s).worker = s.worker := rfl
@[simp] theorem respond_lock (l : List Byte) (s : State) : (respond l s).lock = s.lock := rfl
@[simp] theorem respond_timer (l : List Byte) (s : State) : (respond l s).timer = s.timer := rfl
@[simp] theorem respond_gpio (l : List Byte) (s : State) : (respond l s).gpio = s.gpio := rfl
@[simp] theorem respond_rst (l : List Byte) (s : State) : (respond l s).rst = s.rst := rfl
@[simp] theorem respond_irqArmed (l : List Byte) (s : State) : (respond l s).irqArmed = s.irqArmed := rfl
@[simp] theorem respond_cbSet (l : List Byte) (s : State) : (respond l s).cbSet = s.cbSet := rfl
@[simp] theorem respond_inputs (l : List Byte) (s : State) : (respond l s).inputs = s.inputs := rfl
@[simp] theorem respond_answers (l : List Byte) (s : State) : (respond l s).answers = s.answers := rfl
@[simp] theorem respond_reads (l : List Byte) (s : State) : (respond l s).reads = s.reads := rfl
@[simp] theorem respond_draws (l : List Byte) (s : State) : (respond l s).draws = s.draws := rfl
@[simp] theorem respond_drawn (l : List Byte) (s : State) : (respond l s).drawn = s.drawn := rfl
@[simp] theorem respond_hist (l : List Byte) (s : State) : (respond l s).hist = s.hist ++ [.response (0x00 :: l)] := rfl
@[simp] theorem respond_ret (l : List Byte) (s : State) : (respond l s).ret = s.ret := rfl

@[simp] theorem raiseError_cfg (e : Status) (s : State) : (raiseError e s).cfg = s.cfg := rfl
@[simp] theorem raiseError_state (e : Status) (s : State) : (raiseError e s).state = s.state := rfl
@[simp] theorem raiseError_modem (e : Status) (s : State) : (raiseError e s).modem = s.modem := rfl
@[simp] theorem raiseError_channel (e : Status) (s : State) : (raiseError e s).channel = s.channel := rfl
@[simp] theorem raiseError_fsk (e : Status) (s : State) : (raiseError e s).fsk = s.fsk := rfl
@[simp] theorem raiseError_lora (e : Status) (s : State) : (raiseError e s).lora = s.lora := rfl
@[simp] theorem raiseError_fskPh (e : Status) (s : State) : (raiseError e s).fskPh = s.fskPh := rfl
@[simp] theorem raiseError_loraPh (e : Status) (s : State) : (raiseError e s).loraPh = s.loraPh := rfl
@[simp] theorem raiseError_dataBuf (e : Status) (s : State) : (raiseError e s).dataBuf = s.dataBuf := rfl
@[simp] theorem raiseError_pending (e : Status) (s : State) : (raiseError e s).pending = s.pending := rfl
@[simp] theorem raiseError_worker (e : Status) (s : State) : (raiseError e s).worker = s.worker := rfl
@[simp] theorem raiseError_lock (e : Status) (s : State) : (raiseError e s).lock = s.lock := rfl
@[simp] theorem raiseError_timer (e : Status) (s : State) : (raiseError e s).timer = s.timer := rfl
@[simp] theorem raiseError_gpio (e : Status) (s : State) : (raiseError e s).gpio = s.gpio := rfl
@[simp] theorem raiseError_rst (e : Status) (s : State) : (raiseError e s).rst = s.rst := rfl
@[simp] theorem raiseError_irqArmed (e : Status) (s : State) : (raiseError e s).irqArmed = s.irqArmed := rfl
@[simp] theorem raiseError_cbSet (e : Status) (s : State) : (raiseError e s).cbSet = s.cbSet := rfl
@[simp] theorem raiseError_inputs (e : Status) (s : State) : (raiseError e s).inputs = s.inputs := rfl
@[simp] theorem raiseError_answers (e : Status) (s : State) : (raiseError e s).answers = s.answers := rfl
@[simp] theorem raiseError_reads (e : Status) (s : State) : (raiseError e s).reads = s.reads := rfl
@[simp] theorem raiseError_draws (e : Status) (s : State) : (raiseError e s).draws = s.draws := rfl
@[simp] theorem raiseError_drawn (e : Status) (s : State) : (raiseError e s).drawn = s.drawn := rfl
@[simp] theorem raiseError_hist (e : Status) (s : State) : (raiseError e s).hist = s.hist ++ [.response [statusByte e]] := rfl
@[simp] theorem raiseError_ret (e : Status) (s : State) : (raiseError e s).ret = s.ret := rfl

@[simp] theorem returns_cfg (r : Returned) (s : State) : (returns r s).cfg = s.cfg := rfl
@[simp] theorem returns_state (r : Returned) (s : State) : (returns r s).state = s.state := rfl
@[simp] theorem returns_modem (r : Returned) (s : State) : (returns r s).modem = s.modem := rfl
@[simp] theorem returns_channel (r : Returned) (s : State) : (returns r s).channel = s.channel := rfl
@[simp] theorem returns_fsk (r : Returned) (s : State) : (returns r s).fsk = s.fsk := rfl
@[simp] theorem returns_lora (r : Returned) (s : State) : (returns r s).lora = s.lora := rfl
@[simp] theorem returns_fskPh (r : Returned) (s : State) : (returns r s).fskPh = s.fskPh := rfl
@[simp] theorem returns_loraPh (r : Returned) (s : State) : (returns r s).loraPh = s.loraPh := rfl
@[simp] theorem returns_dataBuf (r : Returned) (s : State) : (returns r s).dataBuf = s.dataBuf := rfl
@[simp] theorem returns_pending (r : Returned) (s : State) : (returns r s).pending = s.pending := rfl
@[simp] theorem returns_worker (r : Returned) (s : State) : (returns r s).worker = s.worker := rfl
@[simp] theorem returns_lock (r : Returned) (s : State) : (returns r s).lock = s.lock := rfl
@[simp] theorem returns_timer (r : Returned) (s : State) : (returns r s).timer = s.timer := rfl
@[simp] theorem returns_gpio (r : Returned) (s : State) : (returns r s).gpio = s.gpio := rfl
@[simp] theorem returns_rst (r : Returned) (s : State) : (returns r s).rst = s.rst := rfl
@[simp] theorem returns_irqArmed (r : Returned) (s : State) : (returns r s).irqArmed = s.irqArmed := rfl
@[simp] theorem returns_cbSet (r : Returned) (s : State) : (returns r s).cbSet = s.cbSet := rfl
@[simp] theorem returns_inputs (r : Returned) (s : State) : (returns r s).inputs = s.inputs := rfl
@[simp] theorem returns_answers (r : Returned) (s : State) : (returns r s).answers = s.answers := rfl
@[simp] theorem returns_reads (r : Returned) (s : State) : (returns r s).reads = s.reads := rfl
@[simp] theorem returns_draws (r : Returned) (s : State) : (returns r s).draws = s.draws := rfl
@[simp] theorem returns_drawn (r : Returned) (s : State) : (returns r s).drawn = s.drawn := rfl
@[simp] theorem returns_hist (r : Returned) (s : State) : (returns r s).hist = s.hist := rfl
@[simp] theorem returns_ret (r : Returned) (s : State) : (returns r s).ret = r := rfl

@[simp] theorem memWrite_cfg (i : Nat) (l : List Byte) (s : State) : (memWrite i l s).cfg = s.cfg := rfl
@[simp] theorem memWrite_state (i : Nat) (l : List Byte) (s : State) : (memWrite i l s).state = s.state := rfl
@[simp] theorem memWrite_modem (i : Nat) (l : List Byte) (s : State) : (memWrite i l s).modem = s.modem := rfl
@[simp] theorem memWrite_channel (i : Nat) (l : List Byte) (s : State) : (memWrite i l s).channel = s.channel := rfl
@[simp] theorem memWrite_fsk (i : Nat) (l : List Byte) (s : State) : (memWrite i l s).fsk = s.fsk := rfl
@[simp] theorem memWrite_lora (i : Nat) (l : List Byte) (s : State) : (memWrite i l s).lora = s.lora := rfl
@[simp] theorem memWrite_fskPh (i : Nat) (l : List Byte) (s : State) : (memWrite i l s).fskPh = s.fskPh := rfl
@[simp] theorem memWrite_loraPh (i : Nat) (l : List Byte) (s : State) : (memWrite i l s).loraPh = s.loraPh := rfl
@[simp] theorem memWrite_dataBuf (i : Nat) (l : List Byte) (s : State) : (memWrite i l s).dataBuf = Memory.writeList s.dataBuf i l := rfl
@[simp] theorem memWrite_pending (i : Nat) (l : List Byte) (s : State) : (memWrite i l s).pending = s.pending := rfl
@[simp] theorem memWrite_worker (i : Nat) (l : List Byte) (s : State) : (memWrite i l s).worker = s.worker := rfl
@[simp] theorem memWrite_lock (i : Nat) (l : List Byte) (s : State) : (memWrite i l s).lock = s.lock := rfl
@[simp] theorem memWrite_timer (i : Nat) (l : List Byte) (s : State) : (memWrite i l s).timer = s.timer := rfl
@[simp] theorem memWrite_gpio (i : Nat) (l : List Byte) (s : State) : (memWrite i l s).gpio = s.gpio := rfl
@[simp] theorem memWrite_rst (i : Nat) (l : List Byte) (s : State) : (memWrite i l s).rst = s.rst := rfl
@[simp] theorem memWrite_irqArmed (i : Nat) (l : List Byte) (s : State) : (memWrite i l s).irqArmed = s.irqArmed := rfl
@[simp] theorem memWrite_cbSet (i : Nat) (l : List Byte) (s : State) : (memWrite i l s).cbSet = s.cbSet := rfl
@[simp] theorem memWrite_inputs (i : Nat) (l : List Byte) (s : State) : (memWrite i l s).inputs = s.inputs := rfl
@[simp] theorem memWrite_answers (i : Nat) (l : List Byte) (s : State) : (memWrite i l s).answers = s.answers := rfl
@[simp] theorem memWrite_reads (i : Nat) (l : List Byte) (s : State) : (memWrite i l s).reads = s.reads := rfl
@[simp] theorem memWrite_draws (i : Nat) (l : List Byte) (s : State) : (memWrite i l s).draws = s.draws := rfl
@[simp] theorem memWrite_drawn (i : Nat) (l : List Byte) (s : State) : (memWrite i l s).drawn = s.drawn := rfl
@[simp] theorem memWrite_hist (i : Nat) (l : List Byte) (s : State) : (memWrite i l s).hist = s.hist := rfl
@[simp] theorem memWrite_ret (i : Nat) (l : List Byte) (s : State) : (memWrite i l s).ret = s.ret := rfl

@[simp] theorem zeroBuffer_cfg (s : State) : (zeroBuffer s).cfg = s.cfg := rfl
@[simp] theorem zeroBuffer_state (s : State) : (zeroBuffer s).state = s.state := rfl
@[simp] theorem zeroBuffer_modem (s : State) : (zeroBuffer s).modem = s.modem := rfl
@[simp] theorem zeroBuffer_channel (s : State) : (zeroBuffer s).channel = s.channel := rfl
@[simp] theorem zeroBuffer_fsk (s : State) : (zeroBuffer s).fsk = s.fsk := rfl
@[simp] theorem zeroBuffer_lora (s : State) : (zeroBuffer s).lora = s.lora := rfl
@[simp] theorem zeroBuffer_fskPh (s : State) : (zeroBuffer s).fskPh = s.fskPh := rfl
@[simp] theorem zeroBuffer_loraPh (s : State) : (zeroBuffer s).loraPh = s.loraPh := rfl
@[simp] theorem zeroBuffer_dataBuf (s : State) : (zeroBuffer s).dataBuf = s.dataBuf.filter (fun c => decide (s.cfg.maxDataBufferSize ≤ c.1)) := rfl
@[simp] theorem zeroBuffer_pending (s : State) : (zeroBuffer s).pending = s.pending := rfl
@[simp] theorem zeroBuffer_worker (s : State) : (zeroBuffer s).worker = s.worker := rfl
@[simp] theorem zeroBuffer_lock (s : State) : (zeroBuffer s).lock = s.lock := rfl
@[simp] theorem zeroBuffer_timer (s : State) : (zeroBuffer s).timer = s.timer := rfl
@[simp] theorem zeroBuffer_gpio (s : State) : (zeroBuffer s).gpio = s.gpio := rfl
@[simp] theorem zeroBuffer_rst (s : State) : (zeroBuffer s).rst = s.rst := rfl
@[simp] theorem zeroBuffer_irqArmed (s : State) : (zeroBuffer s).irqArmed = s.irqArmed := rfl
@[simp] theorem zeroBuffer_cbSet (s : State) : (zeroBuffer s).cbSet = s.cbSet := rfl
@[simp] theorem zeroBuffer_inputs (s : State) : (zeroBuffer s).inputs = s.inputs := rfl
@[simp] theorem zeroBuffer_answers (s : State) : (zeroBuffer s).answers = s.answers := rfl
@[simp] theorem zeroBuffer_reads (s : State) : (zeroBuffer s).reads = s.reads := rfl
@[simp] theorem zeroBuffer_draws (s : State) : (zeroBuffer s).draws = s.draws := rfl
@[simp] theorem zeroBuffer_drawn (s : State) : (zeroBuffer s).drawn = s.drawn := rfl
@[simp] theorem zeroBuffer_hist (s : State) : (zeroBuffer s).hist = s.hist := rfl
@[simp] theorem zeroBuffer_ret (s : State) : (zeroBuffer s).ret = s.ret := rfl

@[simp] theorem setPending_cfg (i : Nat) (s : State) : (setPending i s).cfg = s.cfg := rfl
@[simp] theorem setPending_state (i : Nat) (s : State) : (setPending i s).state = s.state := rfl
@[simp] theorem setPending_modem (i : Nat) (s : State) : (setPending i s).modem = s.modem := rfl
@[simp] theorem setPending_channel (i : Nat) (s : State) : (setPending i s).channel = s.channel := rfl
@[simp] theorem setPending_fsk (i : Nat) (s : State) : (setPending i s).fsk = s.fsk := rfl
@[simp] theorem setPending_lora (i : Nat) (s : State) : (setPending i s).lora = s.lora := rfl
@[simp] theorem setPending_fskPh (i : Nat) (s : State) : (setPending i s).fskPh = s.fskPh := rfl
@[simp] theorem setPending_loraPh (i : Nat) (s : State) : (setPending i s).loraPh = s.loraPh := rfl
@[simp] theorem setPending_dataBuf (i : Nat) (s : State) : (setPending i s).dataBuf = s.dataBuf := rfl
@[simp] theorem setPending_pending (i : Nat) (s : State) : (setPending i s).pending = s.pending ||| BitVec.ofNat 7 (2 ^ i) := rfl
@[simp] theorem setPending_worker (i : Nat) (s : State) : (setPending i s).worker = s.worker := rfl
@[simp] theorem setPending_lock (i : Nat) (s : State) : (setPending i s).lock = s.lock := rfl
@[simp] theorem setPending_timer (i : Nat) (s : State) : (setPending i s).timer = s.timer := rfl
@[simp] theorem setPending_gpio (i : Nat) (s : State) : (setPending i s).gpio = s.gpio := rfl
@[simp] theorem setPending_rst (i : Nat) (s : State) : (setPending i s).rst = s.rst := rfl
@[simp] theorem setPending_irqArmed (i : Nat) (s : State) : (setPending i s).irqArmed = s.irqArmed := rfl
@[simp] theorem setPending_cbSet (i : Nat) (s : State) : (setPending i s).cbSet = s.cbSet := rfl
@[simp] theorem setPending_inputs (i : Nat) (s : State) : (setPending i s).inputs = s.inputs := rfl
@[simp] theorem setPending_answers (i : Nat) (s : State) : (setPending i s).answers = s.answers := rfl
@[simp] theorem setPending_reads (i : Nat) (s : State) : (setPending i s).reads = s.reads := rfl
@[simp] theorem setPending_draws (i : Nat) (s : State) : (setPending i s).draws = s.draws := rfl
@[simp] theorem setPending_drawn (i : Nat) (s : State) : (setPending i s).drawn = s.drawn := rfl
@[simp] theorem setPending_hist (i : Nat) (s : State) : (setPending i s).hist = s.hist := rfl
@[simp] theorem setPending_ret (i : Nat) (s : State) : (setPending i s).ret = s.ret := rfl

@[simp] theorem clearFskPacketState_cfg (s : State) : (clearFskPacketState s).cfg = s.cfg := rfl
@[simp] theorem clearFskPacketState_state (s : State) : (clearFskPacketState s).state = s.state := rfl
@[simp] theorem clearFskPacketState_modem (s : State) : (clearFskPacketState s).modem = s.modem := rfl
@[simp] theorem clearFskPacketState_channel (s : State) : (clearFskPacketState s).channel = s.channel := rfl
@[simp] theorem clearFskPacketState_fsk (s : State) : (clearFskPacketState s).fsk = s.fsk := rfl
@[simp] theorem clearFskPacketState_lora (s : State) : (clearFskPacketState s).lora = s.lora := rfl
@[simp] theorem clearFskPacketState_fskPh (s : State) : (clearFskPacketState s).fskPh = { s.fskPh with preambleDetected := false, syncWordDetected := false, nbBytes := 0, size := 0 } := rfl
@[simp] theorem clearFskPacketState_loraPh (s : State) : (clearFskPacketState s).loraPh = s.loraPh := rfl
@[simp] theorem clearFskPacketState_dataBuf (s : State) : (clearFskPacketState s).dataBuf = s.dataBuf := rfl
@[simp] theorem clearFskPacketState_pending (s : State) : (clearFskPacketState s).pending = s.pending := rfl
@[simp] theorem clearFskPacketState_worker (s : State) : (clearFskPacketState s).worker = s.worker := rfl
@[simp] theorem clearFskPacketState_lock (s : State) : (clearFskPacketState s).lock = s.lock := rfl
@[simp] theorem clearFskPacketState_timer (s : State) : (clearFskPacketState s).timer = s.timer := rfl
@[simp] theorem clearFskPacketState_gpio (s : State) : (clearFskPacketState s).gpio = s.gpio := rfl
@[simp] theorem clearFskPacketState_rst (s : State) : (clearFskPacketState s).rst = s.rst := rfl
@[simp] theorem clearFskPacketState_irqArmed (s : State) : (clearFskPacketState s).irqArmed = s.irqArmed := rfl
@[simp] theorem clearFskPacketState_cbSet (s : State) : (clearFskPacketState s).cbSet = s.cbSet := rfl
@[simp] theorem clearFskPacketState_inputs (s : State) : (clearFskPacketState s).inputs = s.inputs := rfl
@[simp] theorem clearFskPacketState_answers (s : State) : (clearFskPacketState s).answers = s.answers := rfl
@[simp] theorem clearFskPacketState_reads (s : State) : (clearFskPacketState s).reads = s.reads := rfl
@[simp] theorem clearFskPacketState_draws (s : State) : (clearFskPacketState s).draws = s.draws := rfl
@[simp] theorem clearFskPacketState_drawn (s : State) : (clearFskPacketState s).drawn = s.drawn := rfl
@[simp] theorem clearFskPacketState_hist (s : State) : (clearFskPacketState s).hist = s.hist := rfl
@[simp] theorem clearFskPacketState_ret (s : State) : (clearFskPacketState s).ret = s.ret := rfl

@[simp] theorem latchPreamble_cfg (s : State) : (latchPreamble s).cfg = s.cfg := rfl
@[simp] theorem latchPreamble_state (s : State) : (latchPreamble s).state = s.state := rfl
@[simp] theorem latchPreamble_modem (s : State) : (latchPreamble s).modem = s.modem := rfl
@[simp] theorem latchPreamble_channel (s : State) : (latchPreamble s).channel = s.channel := rfl
@[simp] theorem latchPreamble_fsk (s : State) : (latchPreamble s).fsk = s.fsk := rfl
@[simp] theorem latchPreamble_lora (s : State) : (latchPreamble s).lora = s.lora := rfl
@[simp] theorem latchPreamble_fskPh (s : State) : (latchPreamble s).fskPh = { s.fskPh with preambleDetected := true } := rfl
@[simp] theorem latchPreamble_loraPh (s : State) : (latchPreamble s).loraPh = s.loraPh := rfl
@[simp] theorem latchPreamble_dataBuf (s : State) : (latchPreamble s).dataBuf = s.dataBuf := rfl
@[simp] theorem latchPreamble_pending (s : State) : (latchPreamble s).pending = s.pending := rfl
@[simp] theorem latchPreamble_worker (s : State) : (latchPreamble s).worker = s.worker := rfl
@[simp] theorem latchPreamble_lock (s : State) : (latchPreamble s).lock = s.lock := rfl
@[simp] theorem latchPreamble_timer (s : State) : (latchPreamble s).timer = s.timer := rfl
@[simp] theorem latchPreamble_gpio (s : State) : (latchPreamble s).gpio = s.gpio := rfl
@[simp] theorem latchPreamble_rst (s : State) : (latchPreamble s).rst = s.rst := rfl
@[simp] theorem latchPreamble_irqArmed (s : State) : (latchPreamble s).irqArmed = s.irqArmed := rfl
@[simp] theorem latchPreamble_cbSet (s : State) : (latchPreamble s).cbSet = s.cbSet := rfl
@[simp] theorem latchPreamble_inputs (s : State) : (latchPreamble s).inputs = s.inputs := rfl
@[simp] theorem latchPreamble_answers (s : State) : (latchPreamble s).answers = s.answers := rfl
@[simp] theorem latchPreamble_reads (s : State) : (latchPreamble s).reads = s.reads := rfl
@[simp] theorem latchPreamble_draws (s : State) : (latchPreamble s).draws = s.draws := rfl
@[simp] theorem latchPreamble_drawn (s : State) : (latchPreamble s).drawn = s.drawn := rfl
@[simp] theorem latchPreamble_hist (s : State) : (latchPreamble s).hist = s.hist := rfl
@[simp] theorem latchPreamble_ret (s : State) : (latchPreamble s).ret = s.ret := rfl

@[simp] theorem endBatch_cfg (s : State) : (endBatch s).cfg = s.cfg := rfl
@[simp] theorem endBatch_state (s : State) : (endBatch s).state = s.state := rfl
@[simp] theorem endBatch_modem (s : State) : (endBatch s).modem = s.modem := rfl
@[simp] theorem endBatch_channel (s : State) : (endBatch s).channel = s.channel := rfl
@[simp] theorem endBatch_fsk (s : State) : (endBatch s).fsk = s.fsk := rfl
@[simp] theorem endBatch_lora (s : State) : (endBatch s).lora = s.lora := rfl
@[simp] theorem endBatch_fskPh (s : State) : (endBatch s).fskPh = s.fskPh := rfl
@[simp] theorem endBatch_loraPh (s : State) : (endBatch s).loraPh = s.loraPh := rfl
@[simp] theorem endBatch_dataBuf (s : State) : (endBatch s).dataBuf = s.dataBuf := rfl
@[simp] theorem endBatch_pending (s : State) : (endBatch s).pending = s.pending := rfl
@[simp] theorem endBatch_worker (s : State) : (endBatch s).worker = .waiting := rfl
@[simp] theorem endBatch_lock (s : State) : (endBatch s).lock = s.lock := rfl
@[simp] theorem endBatch_timer (s : State) : (endBatch s).timer = s.timer := rfl
@[simp] theorem endBatch_gpio (s : State) : (endBatch s).gpio = s.gpio := rfl
@[simp] theorem endBatch_rst (s : State) : (endBatch s).rst = s.rst := rfl
@[simp] theorem endBatch_irqArmed (s : State) : (endBatch s).irqArmed = s.irqArmed := rfl
@[simp] theorem endBatch_cbSet (s : State) : (endBatch s).cbSet = s.cbSet := rfl
@[simp] theorem endBatch_inputs (s : State) : (endBatch s).inputs = s.inputs := rfl
@[simp] theorem endBatch_answers (s : State) : (endBatch s).answers = s.answers := rfl
@[simp] theorem endBatch_reads (s : State) : (endBatch s).reads = s.reads := rfl
@[simp] theorem endBatch_draws (s : State) : (endBatch s).draws = s.draws := rfl
@[simp] theorem endBatch_drawn (s : State) : (endBatch s).drawn = s.drawn := rfl
@[simp] theorem endBatch_hist (s : State) : (endBatch s).hist = s.hist := rfl
@[simp] theorem endBatch_ret (s : State) : (endBatch s).ret = s.ret := rfl

end Sys2Proof.Machine
end

