-- ==== Sys2Proof/Laws/Memory.lean ====
section
/-! SUPPORT. The data buffer: a read after a write, and the canonical form every memory operation keeps. -/

namespace Sys2Proof.Machine

theorem Memory.wfFrom_cons (lo b : Nat) (w : Byte) (m : Memory) :
    Memory.wfFrom lo ((b, w) :: m) = true ↔ lo ≤ b ∧ w ≠ Memory.unlisted ∧ Memory.wfFrom (b + 1) m = true := by
  simp [Memory.wfFrom, and_assoc]

theorem Memory.wfFrom_mono {lo lo' : Nat} {m : Memory} (h : lo' ≤ lo) (hm : Memory.wfFrom lo m = true) :
    Memory.wfFrom lo' m = true := by
  cases m with
  | nil => rfl
  | cons c m =>
    obtain ⟨b, w⟩ := c
    rw [Memory.wfFrom_cons] at hm ⊢
    exact ⟨by omega, hm.2⟩

/-- Below the first address a canonical memory lists nothing. -/
theorem Memory.read_of_lt {m : Memory} {lo a : Nat} (hm : Memory.wfFrom lo m = true) (h : a < lo) :
    Memory.read m a = Memory.unlisted := by
  induction m generalizing lo with
  | nil => rfl
  | cons c m ih =>
    obtain ⟨b, w⟩ := c
    rw [Memory.wfFrom_cons] at hm
    rw [Memory.read, if_neg (by omega)]
    exact ih hm.2.2 (by omega)

/-- A write keeps the canonical form. -/
theorem Memory.write_wfFrom {m : Memory} {lo a : Nat} (v : Byte) (hm : Memory.wfFrom lo m = true) (h : lo ≤ a) :
    Memory.wfFrom lo (Memory.write m a v) = true := by
  induction m generalizing lo with
  | nil =>
    rw [Memory.write]
    split
    · rfl
    · exact (Memory.wfFrom_cons ..).2 ⟨h, ‹_›, rfl⟩
  | cons c m ih =>
    obtain ⟨b, w⟩ := c
    have hc := hm
    rw [Memory.wfFrom_cons] at hc
    rw [Memory.write]
    split
    · split
      · exact hm
      · exact (Memory.wfFrom_cons ..).2 ⟨h, ‹_›, (Memory.wfFrom_cons ..).2 ⟨by omega, hc.2⟩⟩
    · split
      · split
        · exact Memory.wfFrom_mono (by omega) hc.2.2
        · exact (Memory.wfFrom_cons ..).2 ⟨h, ‹_›, by subst a; exact hc.2.2⟩
      · exact (Memory.wfFrom_cons ..).2 ⟨hc.1, hc.2.1, ih hc.2.2 (by omega)⟩

/-- A read after a write: the written byte at its address, the old one everywhere else. -/
theorem Memory.read_write_from {m : Memory} {lo : Nat} (a : Nat) (v : Byte) (b : Nat) (hm : Memory.wfFrom lo m = true) :
    Memory.read (Memory.write m a v) b = if b = a then v else Memory.read m b := by
  induction m generalizing lo with
  | nil =>
    rw [Memory.write]
    split <;> simp_all [Memory.read]
  | cons c m ih =>
    obtain ⟨d, w⟩ := c
    rw [Memory.wfFrom_cons] at hm
    rw [Memory.write]
    split
    · next hlt =>
      split
      · next hv =>
        split
        · subst_vars
          rw [Memory.read, if_neg (by omega)]
          exact Memory.read_of_lt hm.2.2 (by omega)
        · rfl
      · rw [Memory.read]
    · split
      · next heq =>
        subst heq
        split
        · next hv =>
          subst hv
          by_cases hb : b = a
          · subst hb
            rw [if_pos rfl]
            exact Memory.read_of_lt hm.2.2 (by omega)
          · rw [if_neg hb, Memory.read, if_neg hb]
        · simp only [Memory.read]
          split <;> rfl
      · next hne =>
        rw [Memory.read, Memory.read, ih hm.2.2]
        by_cases hb : b = d
        · subst hb
          rw [if_pos rfl, if_neg (Ne.symm hne), if_pos rfl]
        · rw [if_neg hb, if_neg hb]

theorem Memory.write_wf {m : Memory} (a : Nat) (v : Byte) (hm : Memory.wf m = true) :
    Memory.wf (Memory.write m a v) = true :=
  Memory.write_wfFrom v hm (Nat.zero_le a)

theorem Memory.read_write {m : Memory} (a : Nat) (v : Byte) (b : Nat) (hm : Memory.wf m = true) :
    Memory.read (Memory.write m a v) b = if b = a then v else Memory.read m b :=
  Memory.read_write_from a v b hm

theorem Memory.write_below {m : Memory} {bound : Nat} (a : Nat) (v : Byte) (ha : a < bound)
    (hm : Memory.below bound m = true) : Memory.below bound (Memory.write m a v) = true := by
  induction m with
  | nil =>
    rw [Memory.write]
    split
    · rfl
    · simp [Memory.below, ha]
  | cons c m ih =>
    obtain ⟨d, w⟩ := c
    simp only [Memory.below, List.all_cons, Bool.and_eq_true, decide_eq_true_eq] at hm ih
    rw [Memory.write]
    split
    · split <;> simp [Memory.below, ha, hm.1, hm.2]
    · split
      · split <;> simp [Memory.below, ha] <;> simpa using hm.2
      · simp only [Memory.below, List.all_cons, Bool.and_eq_true, decide_eq_true_eq]
        exact ⟨hm.1, ih hm.2⟩

theorem Memory.writeList_wf {m : Memory} (a : Nat) (l : List Byte) (hm : Memory.wf m = true) :
    Memory.wf (Memory.writeList m a l) = true := by
  induction l generalizing m a with
  | nil => exact hm
  | cons v l ih => exact ih (a + 1) (Memory.write_wf a v hm)

theorem Memory.writeList_below {m : Memory} {bound : Nat} (a : Nat) (l : List Byte) (ha : a + l.length ≤ bound)
    (hm : Memory.below bound m = true) : Memory.below bound (Memory.writeList m a l) = true := by
  induction l generalizing m a with
  | nil => exact hm
  | cons v l ih =>
    rw [List.length_cons] at ha
    exact ih (a + 1) (by omega) (Memory.write_below a v (by omega) hm)

/-- A read after a run of writes. -/
theorem Memory.read_writeList {m : Memory} (a : Nat) (l : List Byte) (b : Nat) (hm : Memory.wf m = true) :
    Memory.read (Memory.writeList m a l) b =
      if a ≤ b ∧ b < a + l.length then l.getD (b - a) 0 else Memory.read m b := by
  induction l generalizing m a with
  | nil => rw [Memory.writeList, if_neg (by simp only [List.length_nil]; omega)]
  | cons v l ih =>
    rw [Memory.writeList, ih (a + 1) (Memory.write_wf a v hm), Memory.read_write a v b hm, List.length_cons]
    by_cases h : b = a
    · subst h
      rw [if_neg (by omega), if_pos rfl, if_pos (by omega)]
      simp
    · rw [if_neg h]
      by_cases h2 : a + 1 ≤ b ∧ b < a + 1 + l.length
      · rw [if_pos h2, if_pos (by omega)]
        obtain ⟨k, rfl⟩ : ∃ k, b = a + 1 + k := ⟨b - (a + 1), by omega⟩
        rw [show a + 1 + k - (a + 1) = k by omega, show a + 1 + k - a = k + 1 by omega, List.getD_cons_succ]
      · rw [if_neg h2, if_neg (by omega)]

theorem Memory.filter_wfFrom {m : Memory} {lo : Nat} (p : Host.Cell → Bool) (hm : Memory.wfFrom lo m = true) :
    Memory.wfFrom lo (m.filter p) = true := by
  induction m generalizing lo with
  | nil => rfl
  | cons c m ih =>
    obtain ⟨b, w⟩ := c
    rw [Memory.wfFrom_cons] at hm
    rw [List.filter_cons]
    split
    · exact (Memory.wfFrom_cons ..).2 ⟨hm.1, hm.2.1, ih hm.2.2⟩
    · exact Memory.wfFrom_mono (by omega) (ih hm.2.2)

/-- What `zeroBuffer` leaves: zeros below the bound, the old bytes above it. -/
theorem Memory.read_filter (m : Memory) (bound a : Nat) :
    Memory.read (m.filter (fun c => decide (bound ≤ c.1))) a = if a < bound then Memory.unlisted else Memory.read m a := by
  induction m with
  | nil => simp [Memory.read]
  | cons c m ih =>
    obtain ⟨b, w⟩ := c
    rw [List.filter_cons]
    by_cases hb : bound ≤ b
    · rw [if_pos (by simpa using hb), Memory.read, Memory.read, ih]
      by_cases h : a = b
      · rw [if_pos h, if_pos h, if_neg (by omega)]
      · rw [if_neg h, if_neg h]
    · rw [if_neg (by simpa using hb), ih, Memory.read]
      by_cases h : a < bound
      · rw [if_pos h, if_pos h]
      · rw [if_neg h, if_neg h, if_neg (by omega)]

/-- The canonical form is one: equal reads, equal memories. -/
theorem Memory.eq_of_read_from {m m' : Memory} {lo : Nat} (hm : Memory.wfFrom lo m = true)
    (hm' : Memory.wfFrom lo m' = true) (h : ∀ a, Memory.read m a = Memory.read m' a) : m = m' := by
  induction m generalizing m' lo with
  | nil =>
    cases m' with
    | nil => rfl
    | cons c m' =>
      obtain ⟨b, w⟩ := c
      have hb := h b
      rw [Memory.wfFrom_cons] at hm'
      simp only [Memory.read, if_true] at hb
      exact absurd hb.symm hm'.2.1
  | cons c m ih =>
    obtain ⟨b, w⟩ := c
    rw [Memory.wfFrom_cons] at hm
    cases m' with
    | nil =>
      have hb := h b
      simp only [Memory.read, if_true] at hb
      exact absurd hb hm.2.1
    | cons c' m' =>
      obtain ⟨b', w'⟩ := c'
      rw [Memory.wfFrom_cons] at hm'
      have hbb : b = b' := by
        rcases Nat.lt_trichotomy b b' with hlt | heq | hgt
        · have hb := h b
          simp only [Memory.read, if_true] at hb
          rw [if_neg (by omega), Memory.read_of_lt hm'.2.2 (by omega)] at hb
          exact absurd hb hm.2.1
        · exact heq
        · have hb := h b'
          simp only [Memory.read, if_true] at hb
          rw [if_neg (by omega), Memory.read_of_lt hm.2.2 (by omega)] at hb
          exact absurd hb.symm hm'.2.1
      subst hbb
      have hw : w = w' := by simpa [Memory.read] using h b
      subst hw
      rw [ih hm.2.2 hm'.2.2]
      intro a
      by_cases ha : a = b
      · rw [ha, Memory.read_of_lt hm.2.2 (by omega), Memory.read_of_lt hm'.2.2 (by omega)]
      · simpa [Memory.read, ha] using h a

theorem Memory.readList_length (m : Memory) (a n : Nat) : (Memory.readList m a n).length = n := by
  induction n generalizing a with
  | zero => rfl
  | succ n ih => simp [Memory.readList, ih]

/-- Reading back a run just written at 0. -/
theorem Memory.readList_eq {m : Memory} (a : Nat) (l : List Byte)
    (h : ∀ k, k < l.length → Memory.read m (a + k) = l.getD k 0) : Memory.readList m a l.length = l := by
  induction l generalizing a with
  | nil => rfl
  | cons v l ih =>
    rw [List.length_cons, Memory.readList, ih (a + 1)]
    · have h0 := h 0 (by simp)
      simp only [Nat.add_zero, List.getD_cons_zero] at h0
      rw [h0]
    · intro k hk
      have h1 := h (k + 1) (by simpa using hk)
      rw [List.getD_cons_succ] at h1
      rw [← h1]
      congr 1
      omega

/-- The reset memory has the canonical form. -/
theorem Memory.reset_wf (c : Config) : Memory.wf (State.resetWith c).dataBuf = true := rfl

theorem memWrite_wf {s : State} (i : Nat) (l : List Byte) (h : Memory.wf s.dataBuf = true) :
    Memory.wf (memWrite i l s).dataBuf = true := Memory.writeList_wf i l h

theorem zeroBuffer_wf {s : State} (h : Memory.wf s.dataBuf = true) : Memory.wf (zeroBuffer s).dataBuf = true :=
  Memory.filter_wfFrom _ h

end Sys2Proof.Machine
end

