-- ==== Sys2Proof/Laws/Ops.lean ====
section
/-! SUPPORT. What each shared operation does, said once: a closed form over `State.after`, cited instead of unfolding. -/

namespace Sys2Proof.Machine

/-! ### `State.after` -/

theorem answer_after (s : State) (n : Nat) (l : List Event) (k : Nat) : answer (s.after n l) k = answer s (n + k) := by
  simp only [answer, State.after_answers, State.after_reads, List.getD_eq_getElem?_getD, List.getElem?_drop]
  rw [show s.reads + n + k = s.reads + (n + k) by omega]

theorem answer_congr {s t : State} (h1 : s.answers = t.answers) (h2 : s.reads = t.reads) : answer s = answer t := by
  funext k
  simp only [answer, h1, h2]

theorem answered_congr {s t : State} (h1 : s.answers = t.answers) (h2 : s.reads = t.reads) (n : Nat) :
    answered s n = answered t n := by
  simp only [answered, answer_congr h1 h2]

@[simp] theorem answered_length (s : State) (n : Nat) : (answered s n).length = n := by simp [answered]

theorem answered_getD (s : State) (n k : Nat) (h : k < n) : (answered s n).getD k 0 = answer s k := by
  simp [answered, List.getD_eq_getElem?_getD, h]

theorem answered_one (s : State) : answered s 1 = [answer s 0] := rfl

theorem after_after (s : State) (n m : Nat) (l l' : List Event) :
    (s.after n l).after m l' = s.after (n + m) (l ++ l') := by
  simp only [State.after, List.drop_drop, Nat.add_assoc, List.append_assoc]

theorem after_nil (s : State) : s.after 0 [] = s := by
  simp only [State.after, List.drop_zero, Nat.add_zero, List.append_nil]

/-! ### The bus (R110 to R116, R7, R98) -/

theorem record_eq (e : Event) (s : State) : record e s = s.after 0 [e] := rfl

theorem wait_eq (n : Nat) (s : State) : wait n s = s.after 0 [.wait n] := rfl

theorem regWrite_eq (a : Addr) (v : Byte) (s : State) : regWrite a v s = s.after 0 [writeOf a v] := rfl

theorem regRead_eq (a : Addr) (s : State) : regRead a s = (answer s 0, s.after 1 [readOf a (answer s 0)]) := rfl

theorem regSet_eq (a : Addr) (m o : Byte) (s : State) : regSet a m o s = s.after 1 (setOf a m o (answer s 0)) := by
  simp only [regSet, regRead_eq, regWrite_eq, after_after]
  rfl

theorem regWriteBurst_eq (a : Addr) (l : List Byte) (s : State) :
    regWriteBurst a l s = s.after 0 (if l.length = 0 then [] else [.busWrite a l]) := by
  rw [regWriteBurst]
  split
  · rw [after_nil]
  · rfl

theorem fifoWrite_eq (l : List Byte) (s : State) :
    fifoWrite l s = s.after 0 (if l.length = 0 then [] else [.busWrite regFifo l]) := regWriteBurst_eq regFifo l s

theorem regReadBurst_eq (a : Addr) (n : Nat) (s : State) :
    regReadBurst a n s = (answered s n, s.after n (if n = 0 then [] else [.busRead a (answered s n)])) := by
  rw [regReadBurst]
  split
  · next h =>
    subst h
    rw [after_nil]
    rfl
  · rfl

theorem fifoRead_eq (n : Nat) (s : State) :
    fifoRead n s = (answered s n, s.after n (if n = 0 then [] else [.busRead regFifo (answered s n)])) :=
  regReadBurst_eq regFifo n s

theorem seqEvents_after (s : State) (n : Nat) (l : List Event) (k : Nat) (seq : List SeqStep) :
    seqEvents (answer (s.after n l)) k seq = seqEvents (answer s) (n + k) seq := by
  induction seq generalizing k with
  | nil => rfl
  | cons x seq ih =>
    cases x with
    | w a v => rw [seqEvents, seqEvents, ih]
    | m a x y => rw [seqEvents, seqEvents, ih, answer_after, Nat.add_assoc]

/-- `Apply(seq)` is the transactions of its steps and nothing else (R98). -/
theorem applySeq_eq (seq : List SeqStep) (s : State) :
    applySeq seq s = s.after (seqReads seq) (seqEvents (answer s) 0 seq) := by
  induction seq generalizing s with
  | nil => exact (after_nil s).symm
  | cons x seq ih =>
    have h : applySeq (x :: seq) s = applySeq seq (applyStep s x) := rfl
    rw [h, ih]
    cases x with
    | w a v => rw [applyStep, regWrite_eq, seqEvents_after, after_after, Nat.zero_add]; rfl
    | m a x y =>
      rw [applyStep, regSet_eq, seqEvents_after, after_after, Nat.add_comm 1 (seqReads seq)]
      rfl

/-! ### The control fields

The mode controller writes four fields: `S.modem`, `S.state`, `S.timer` and `S.gpio`. Naming their update keeps the closed
forms small. -/

/-- `s` with the four fields the mode controller writes replaced. -/
def State.put (s : State) (m : ModemKind) (st : RadioState) (tm : Timer) (g : Gpio) : State :=
  { s with modem := m, state := st, timer := tm, gpio := g }

theorem put_self (s : State) : s.put s.modem s.state s.timer s.gpio = s := rfl

theorem put_put (s : State) (m m' : ModemKind) (st st' : RadioState) (tm tm' : Timer) (g g' : Gpio) :
    (s.put m st tm g).put m' st' tm' g' = s.put m' st' tm' g' := rfl

theorem put_after (s : State) (m : ModemKind) (st : RadioState) (tm : Timer) (g : Gpio) (n : Nat) (l : List Event) :
    (s.put m st tm g).after n l = (s.after n l).put m st tm g := rfl

theorem answer_put (s : State) (m : ModemKind) (st : RadioState) (tm : Timer) (g : Gpio) :
    answer (s.put m st tm g) = answer s := rfl

@[simp] theorem put_cfg (s : State) (m : ModemKind) (st : RadioState) (tm : Timer) (g : Gpio) :
    (s.put m st tm g).cfg = s.cfg := rfl
@[simp] theorem put_modem (s : State) (m : ModemKind) (st : RadioState) (tm : Timer) (g : Gpio) :
    (s.put m st tm g).modem = m := rfl
@[simp] theorem put_state (s : State) (m : ModemKind) (st : RadioState) (tm : Timer) (g : Gpio) :
    (s.put m st tm g).state = st := rfl
@[simp] theorem put_timer (s : State) (m : ModemKind) (st : RadioState) (tm : Timer) (g : Gpio) :
    (s.put m st tm g).timer = tm := rfl
@[simp] theorem put_gpio (s : State) (m : ModemKind) (st : RadioState) (tm : Timer) (g : Gpio) :
    (s.put m st tm g).gpio = g := rfl
@[simp] theorem put_fsk (s : State) (m : ModemKind) (st : RadioState) (tm : Timer) (g : Gpio) :
    (s.put m st tm g).fsk = s.fsk := rfl
@[simp] theorem put_lora (s : State) (m : ModemKind) (st : RadioState) (tm : Timer) (g : Gpio) :
    (s.put m st tm g).lora = s.lora := rfl
@[simp] theorem put_fskPh (s : State) (m : ModemKind) (st : RadioState) (tm : Timer) (g : Gpio) :
    (s.put m st tm g).fskPh = s.fskPh := rfl
@[simp] theorem put_cbSet (s : State) (m : ModemKind) (st : RadioState) (tm : Timer) (g : Gpio) :
    (s.put m st tm g).cbSet = s.cbSet := rfl
@[simp] theorem put_dataBuf (s : State) (m : ModemKind) (st : RadioState) (tm : Timer) (g : Gpio) :
    (s.put m st tm g).dataBuf = s.dataBuf := rfl

/-- `answer (s.after n l)` as a function. -/
theorem answer_after_fun (s : State) (n : Nat) (l : List Event) :
    answer (s.after n l) = fun k => answer s (n + k) := funext (answer_after s n l)

/-! ### Pins (R29, R140 to R144) -/

theorem gpioSet_eq (p : Pin) (b : Bool) (s : State) : gpioSet p b s =
    if s.cfg.wiring.connected p then (s.after 0 [.gpioSet p b]).put s.modem s.state s.timer (gpioPut s.gpio p b) else s :=
  rfl

/-- Driving pins in order: the actions on the connected ones, and their levels. -/
theorem gpioSetAll_eq (l : List (Pin × Bool)) (s : State) :
    gpioSetAll l s = (s.after 0 (pinEvents s.cfg.wiring l)).put s.modem s.state s.timer
      (pinsDriven s.cfg.wiring l s.gpio) := by
  induction l generalizing s with
  | nil => exact (after_nil s).symm
  | cons x l ih =>
    have h : gpioSetAll (x :: l) s = gpioSetAll l (gpioSet x.1 x.2 s) := rfl
    rw [h, ih, gpioSet_eq, pinEvents, pinEvents, pinsDriven, pinsDriven, List.filter_cons]
    by_cases hc : s.cfg.wiring.connected x.1 = true
    · simp only [hc, if_true, put_after, put_put, after_after, put_cfg, State.after_cfg, put_gpio, put_modem, put_state,
        put_timer, Nat.zero_add, List.map_cons, List.foldl_cons, List.cons_append, List.nil_append]
    · simp only [hc, Bool.false_eq_true, if_false]

theorem antennaLowPower_eq (s : State) : antennaLowPower s =
    (s.after 0 (pinEvents s.cfg.wiring (lowPowerPins s.cfg.wiring))).put s.modem s.state s.timer
      (pinsDriven s.cfg.wiring (lowPowerPins s.cfg.wiring) s.gpio) :=
  gpioSetAll_eq (lowPowerPins s.cfg.wiring) s

/-- `SET_ANTENNA_SWITCH` (R143): at most one read, the levels of the populated scheme. -/
theorem setAntennaSwitch_eq (mode : OpMode) (s : State) : setAntennaSwitch mode s =
    (s.after (switchReads s.cfg mode) (switchEvents s.cfg mode (answer s 0))).put s.modem s.state s.timer
      (pinsDriven s.cfg.wiring (switchLevels s.cfg mode (answer s 0)) s.gpio) := by
  rw [setAntennaSwitch]
  by_cases h : scheme s.cfg.wiring = .a ∧ modeClass mode = .tx
  · have hb : readsBoost s.cfg mode = true := decide_eq_true h
    simp only [if_pos h, regRead_eq, gpioSetAll_eq, switchReads, switchEvents, switchLevels, hb, if_true, Bool.true_and,
      after_after, State.after_cfg, State.after_modem, State.after_state, State.after_timer, State.after_gpio,
      List.cons_append, List.nil_append, Nat.add_zero]
  · have hb : readsBoost s.cfg mode = false := decide_eq_false h
    simp only [if_neg h, gpioSetAll_eq, switchReads, switchEvents, switchLevels, hb, Bool.false_eq_true, if_false,
      Bool.false_and, List.nil_append]

theorem switchReads_sleep (c : Config) : switchReads c .sleep = 0 := by
  simp [switchReads, readsBoost, modeClass]

@[simp] theorem modeReads_sleep (c : Config) : modeReads c .sleep = 1 := by
  rw [modeReads, switchReads_sleep]

@[simp] theorem modeReads_standby (c : Config) : modeReads c .standby = 1 := by
  simp [modeReads, switchReads, readsBoost, modeClass]

@[simp] theorem modeLevels_sleep (c : Config) (v : Byte) : modeLevels c .sleep v = lowPowerPins c.wiring := rfl

/-- `SET_OPERATION_MODE` (R140): the pins, then one read and one write of `REG_OPMODE`. -/
theorem setOperationMode_eq (mode : OpMode) (s : State) : setOperationMode mode s =
    (s.after (modeReads s.cfg mode) (modeEvents s.cfg (answer s) 0 mode)).put s.modem s.state s.timer
      (pinsDriven s.cfg.wiring (modeLevels s.cfg mode (answer s 0)) s.gpio) := by
  rw [setOperationMode, regSet_eq]
  by_cases h : mode = .sleep
  · subst h
    have hd : drivePins .sleep s = antennaLowPower s := rfl
    rw [hd, antennaLowPower_eq, modeReads_sleep, put_after, after_after, answer_put, answer_after]
    simp only [modeEvents, modeLevels, if_true, switchReads_sleep]
  · have hd : drivePins mode s = setAntennaSwitch mode s := by cases mode <;> first | rfl | exact absurd rfl h
    rw [hd, setAntennaSwitch_eq, put_after, after_after, answer_put, answer_after]
    simp only [modeReads, modeEvents, modeLevels, if_neg h, Nat.zero_add, Nat.add_zero]

/-- The events of a mode write seen from an earlier state. -/
theorem modeEvents_after (s : State) (c : Config) (n : Nat) (l : List Event) (k : Nat) (mode : OpMode) :
    modeEvents c (answer (s.after n l)) k mode = modeEvents c (answer s) (n + k) mode := by
  simp only [modeEvents, answer_after, Nat.add_assoc]

theorem modeEvents_shift (c : Config) (f : Nat → Byte) (n k : Nat) (mode : OpMode) :
    modeEvents c (fun j => f (n + j)) k mode = modeEvents c f (n + k) mode := by
  simp only [modeEvents, Nat.add_assoc]

theorem seqEvents_shift (f : Nat → Byte) (n k : Nat) (seq : List SeqStep) :
    seqEvents (fun j => f (n + j)) k seq = seqEvents f (n + k) seq := by
  induction seq generalizing k with
  | nil => rfl
  | cons x seq ih =>
    cases x with
    | w a v => rw [seqEvents, seqEvents, ih]
    | m a x y => rw [seqEvents, seqEvents, ih, Nat.add_assoc]

/-! ### The timer and `GoIdle` (R153, R260) -/

theorem timerStart_eq (ms : Word) (s : State) :
    timerStart ms s = (s.after 0 [.timerStart ms]).put s.modem s.state (.armed ms) s.gpio := rfl

theorem timerCancel_eq (s : State) :
    timerCancel s = (s.after 0 [.timerCancel]).put s.modem s.state .disarmed s.gpio := rfl

theorem goIdle_eq (s : State) : goIdle s = (s.after 0 [.timerCancel]).put s.modem .idle .disarmed s.gpio := rfl

theorem respond_eq (l : List Byte) (s : State) : respond l s = s.after 0 [okResponse l] := rfl

theorem raiseError_eq (e : Status) (s : State) : raiseError e s = s.after 0 [.response [statusByte e]] := rfl

theorem emit_eq (c : Callback) (s : State) : emit c s = s.after 0 (callbackEvents s.cbSet c) := by
  rw [emit, callbackEvents]
  split
  · rfl
  · exact (after_nil s).symm

/-! ### Mode and modem (R146 to R150) -/

theorem sleepOp_eq (s : State) : sleepOp s =
    (s.after 1 (.timerCancel :: modeEvents s.cfg (answer s) 0 .sleep)).put s.modem .idle .disarmed
      (pinsDriven s.cfg.wiring (lowPowerPins s.cfg.wiring) s.gpio) := by
  simp only [sleepOp, setOperationMode_eq, goIdle_eq, put_after, put_put, after_after, put_cfg, put_modem, put_state,
    put_timer, put_gpio, State.after_cfg, answer_put, answer_after_fun, modeReads_sleep,
    modeLevels_sleep, Nat.zero_add, Nat.add_zero, List.cons_append, List.nil_append]

theorem standbyOp_eq (s : State) : standbyOp s =
    (s.after 1 (.timerCancel :: modeEvents s.cfg (answer s) 0 .standby)).put s.modem .idle .disarmed
      (pinsDriven s.cfg.wiring (modeLevels s.cfg .standby (answer s 0)) s.gpio) := by
  simp only [standbyOp, setOperationMode_eq, goIdle_eq, put_after, put_put, after_after, put_cfg, put_modem, put_state,
    put_timer, put_gpio, State.after_cfg, answer_put, answer_after_fun, modeReads_standby,
    Nat.zero_add, Nat.add_zero, List.cons_append, List.nil_append]

/-- The control fields `SET_MODEM` leaves (R146). -/
theorem withModem_eq (kind : ModemKind) (s : State) : s.withModem kind =
    (s.after (modemReads s.cfg kind (answer s 0)) (modemEvents s.cfg (answer s) 0 kind)).put kind
      (if modemOfOpmode s.cfg.regmap (answer s 0) = kind then s.state else .idle)
      (if modemOfOpmode s.cfg.regmap (answer s 0) = kind then s.timer else .disarmed)
      (if modemOfOpmode s.cfg.regmap (answer s 0) = kind then s.gpio
        else pinsDriven s.cfg.wiring (lowPowerPins s.cfg.wiring) s.gpio) := by
  rw [State.withModem]
  by_cases h : modemOfOpmode s.cfg.regmap (answer s 0) = kind
  · simp only [if_pos h]; rfl
  · simp only [if_neg h]; rfl

/-- The change path of `SET_MODEM` (R146). -/
theorem switchModem_eq (kind : ModemKind) (s : State) : switchModem kind s =
    (s.after (2 + seqReads (diomapDefault s.cfg.chipSeq kind)) (.timerCancel :: modeEvents s.cfg (answer s) 0 .sleep
      ++ setOf s.cfg.regmap.opmode (~~~s.cfg.regmap.opmodeLrm) (lrmBits s.cfg.regmap kind) (answer s 1)
      ++ seqEvents (answer s) 2 (diomapDefault s.cfg.chipSeq kind))).put kind .idle .disarmed
      (pinsDriven s.cfg.wiring (lowPowerPins s.cfg.wiring) s.gpio) := by
  have hm : ({ s with modem := kind } : State) = s.put kind s.state s.timer s.gpio := rfl
  rw [switchModem, hm]
  simp only [sleepOp_eq, regSet_eq, applySeq_eq, put_after, put_put, after_after, put_cfg, put_modem, put_gpio,
    answer_put, answer_after_fun, seqEvents_shift, Nat.add_zero, Nat.reduceAdd, List.append_assoc]

/-- `SET_MODEM` (R146). -/
theorem setModem_eq (kind : ModemKind) (s : State) : setModem kind s = s.withModem kind := by
  rw [withModem_eq, setModem, regRead_eq]
  by_cases h : modemOfOpmode s.cfg.regmap (answer s 0) = kind
  · simp only [if_pos h, modemReads, modemEvents]
    rfl
  · simp only [if_neg h, modemReads, modemEvents, switchModem_eq, after_after, State.after_cfg, State.after_gpio,
      answer_after_fun, modeEvents_shift, seqEvents_shift, Nat.add_zero, Nat.zero_add, Nat.reduceAdd, ← Nat.add_assoc,
      List.cons_append, List.nil_append, List.append_assoc]

end Sys2Proof.Machine
end

