-- ==== Sys2Proof/Laws/PerInstr.lean ====
section
/-! SUPPORT. One law per instruction: the frame of a well-formed instruction has the length its format gives it. -/

namespace Sys2Proof.Laws.FrameLength

open Sys2Proof.Machine

/-- A command's frame has the length R87 gives its opcode, an event is one byte (R91), a bus frame an address byte and at
least one more (R92), a micro-operation call at least its identifier (R93). -/
def Statement (i : Instr) : Prop :=
  i.wellFormed = true →
    match i.format with
    | .command => commandLength (encode i) = some (encode i).length
    | .event => (encode i).length = 1
    | .bus => 2 ≤ (encode i).length
    | .micro => 1 ≤ (encode i).length

theorem initRadio (callbacks : Byte) : Statement (.initRadio callbacks) := fun _ => rfl
theorem setChannel (freqHz : Word) : Statement (.setChannel freqHz) := fun _ => rfl
theorem getStatus : Statement .getStatus := fun _ => rfl
theorem sleep : Statement .sleep := fun _ => rfl
theorem standby : Statement .standby := fun _ => rfl
theorem setRxConfig (args : RxConfigArgs) : Statement (.setRxConfig args) := fun _ => rfl
theorem setTxConfig (args : TxConfigArgs) : Statement (.setTxConfig args) := fun _ => rfl
theorem send (size : Byte) (buffer : List Byte) : Statement (.send size buffer) := fun h => by
    have hl : buffer.length = size.toNat := by simpa [Instr.wellFormed] using h
    show some (2 + size.toNat) = some (buffer.length + 2)
    rw [hl, Nat.add_comm]
theorem receive : Statement .receive := fun _ => rfl
theorem startCad : Statement .startCad := fun _ => rfl
theorem setTxContinuousWave (freq : Word) (power : Byte) (duration : Half) :
    Statement (.setTxContinuousWave freq power duration) :=
  fun _ => rfl
theorem setMaxPayloadLength (modem : ModemKind) (max : Byte) : Statement (.setMaxPayloadLength modem max) :=
  fun _ => rfl
theorem setPublicNetwork (enabled : Bool) : Statement (.setPublicNetwork enabled) := fun _ => rfl
theorem performCarrierSense (modem : ModemKind) (freq : Word) (rssiThreshold : Half) (maxDurationMs : Word) :
    Statement (.performCarrierSense modem freq rssiThreshold maxDurationMs) :=
  fun _ => rfl
theorem timeOnAir (modem : ModemKind) (payloadLen : Byte) : Statement (.timeOnAir modem payloadLen) := fun _ => rfl
theorem random : Statement .random := fun _ => rfl
theorem checkRfFrequency (freq : Word) : Statement (.checkRfFrequency freq) := fun _ => rfl
theorem lock : Statement .lock := fun _ => rfl
theorem unlock : Statement .unlock := fun _ => rfl
theorem dio0Irq : Statement .dio0Irq := fun _ => rfl
theorem dio1Irq : Statement .dio1Irq := fun _ => rfl
theorem dio2Irq : Statement .dio2Irq := fun _ => rfl
theorem dio3Irq : Statement .dio3Irq := fun _ => rfl
theorem dio4Irq : Statement .dio4Irq := fun _ => rfl
theorem dio5Irq : Statement .dio5Irq := fun _ => rfl
theorem timeoutIrq : Statement .timeoutIrq := fun _ => rfl
theorem writeRegister (addr : Addr) (value : Byte) : Statement (.writeRegister addr value) := fun _ => Nat.le_refl 2
theorem writeRegisters (addr : Addr) (bytes : List Byte) : Statement (.writeRegisters addr bytes) := fun h => by
    have hl : addr ≠ 0 ∧ 2 ≤ bytes.length := by simpa [Instr.wellFormed] using h
    show 2 ≤ (encode (.writeRegisters addr bytes)).length
    rw [encode, if_neg (by omega), List.length_cons]
    omega
theorem readRegister (addr : Addr) : Statement (.readRegister addr) := fun _ => Nat.le_refl 2
theorem readRegisters (addr : Addr) (count : Nat) : Statement (.readRegisters addr count) := fun h => by
    have hl : addr ≠ 0 ∧ 2 ≤ count := by simpa [Instr.wellFormed] using h
    show 2 ≤ (encode (.readRegisters addr count)).length
    rw [encode, if_neg (by omega), List.length_cons, List.length_replicate]
    omega
theorem writeFifo (bytes : List Byte) : Statement (.writeFifo bytes) := fun h => by
    have hl : 1 ≤ bytes.length := by simpa [Instr.wellFormed] using h
    show 2 ≤ (encode (.writeFifo bytes)).length
    rw [encode, if_neg (by omega), List.length_cons]
    omega
theorem readFifo (count : Nat) : Statement (.readFifo count) := fun h => by
    have hl : 1 ≤ count := by simpa [Instr.wellFormed] using h
    show 2 ≤ (encode (.readFifo count)).length
    rw [encode, if_neg (by omega), List.length_cons, List.length_replicate]
    omega
theorem setOperationMode (mode : OpMode) : Statement (.setOperationMode mode) :=
  fun _ => Nat.succ_le_succ (Nat.zero_le _)
theorem setModem (kind : ModemKind) : Statement (.setModem kind) := fun _ => Nat.succ_le_succ (Nat.zero_le _)
theorem radioReset : Statement .radioReset := fun _ => Nat.succ_le_succ (Nat.zero_le _)
theorem transmit (timeoutMs : Word) : Statement (.transmit timeoutMs) := fun _ => Nat.succ_le_succ (Nat.zero_le _)
theorem setAntennaSwitch (mode : OpMode) : Statement (.setAntennaSwitch mode) :=
  fun _ => Nat.succ_le_succ (Nat.zero_le _)
theorem antennaLowPower : Statement .antennaLowPower := fun _ => Nat.succ_le_succ (Nat.zero_le _)
theorem loadDefaultRegisters : Statement .loadDefaultRegisters := fun _ => Nat.succ_le_succ (Nat.zero_le _)
theorem setRfTxPower (power : Byte) : Statement (.setRfTxPower power) := fun _ => Nat.succ_le_succ (Nat.zero_le _)
theorem fskBandwidthCode (bwHz : Word) : Statement (.fskBandwidthCode bwHz) := fun _ => Nat.succ_le_succ (Nat.zero_le _)
theorem txPowerEncode (power : Byte) (path : PaPath) : Statement (.txPowerEncode power path) :=
  fun _ => Nat.succ_le_succ (Nat.zero_le _)
theorem fskTimeOnAir (preambleLen syncWordLen addrFilterByte payloadLen crcBytes datarate : Nat) :
    Statement (.fskTimeOnAir preambleLen syncWordLen addrFilterByte payloadLen crcBytes datarate) :=
  fun _ => Nat.succ_le_succ (Nat.zero_le _)
theorem loraTimeOnAir (bwHz sf cr preambleLen payloadLen : Nat) (crcOn fixedLen ldro : Bool) :
    Statement (.loraTimeOnAir bwHz sf cr preambleLen payloadLen crcOn fixedLen ldro) :=
  fun _ => Nat.succ_le_succ (Nat.zero_le _)
theorem fskRxAbort : Statement .fskRxAbort := fun _ => Nat.succ_le_succ (Nat.zero_le _)

end Sys2Proof.Laws.FrameLength
end

