-- ==== Sys2Proof/Laws/Units.lean ====
section
/-! SUPPORT. The operations several instructions share, each said once: configuration, transmission, reception. -/

namespace Sys2Proof.Machine

/-- Two states are one where what an operation shows is the same and everything else is. -/
theorem State.ext_trace {s t : State}
    (h : ({ s with answers := [], reads := 0, hist := [] } : State) = { t with answers := [], reads := 0, hist := [] })
    (ha : s.answers = t.answers) (hr : s.reads = t.reads) (hh : s.hist = t.hist) : s = t := by
  cases s
  cases t
  simp only [State.mk.injEq] at h ha hr hh ⊢
  simp only [h, ha, hr, hh, and_self]

/-! ### What mode control changes -/

/-- `t` is `s` after bus, pin and timer activity: only the control fields, the chip's answers and the history differ. -/
def ControlOf (s t : State) : Prop := ∃ m st tm g n ev, t = (s.after n ev).put m st tm g

theorem ControlOf.refl (s : State) : ControlOf s s :=
  ⟨s.modem, s.state, s.timer, s.gpio, 0, [], by rw [after_nil]; rfl⟩

theorem ControlOf.trans {a b c : State} (h : ControlOf a b) (h' : ControlOf b c) : ControlOf a c := by
  obtain ⟨m, st, tm, g, n, ev, rfl⟩ := h
  obtain ⟨m', st', tm', g', n', ev', rfl⟩ := h'
  exact ⟨m', st', tm', g', n + n', ev ++ ev', by rw [put_after, put_put, after_after]⟩

theorem ControlOf.after (s : State) (n : Nat) (ev : List Event) : ControlOf s (s.after n ev) :=
  ⟨s.modem, s.state, s.timer, s.gpio, n, ev, rfl⟩

theorem ControlOf.withModem (s : State) (k : ModemKind) : ControlOf s (s.withModem k) := by
  rw [withModem_eq]
  exact ⟨_, _, _, _, _, _, rfl⟩

theorem ControlOf.withDefaults (s : State) : ControlOf s s.withDefaults := by
  rw [State.withDefaults]
  generalize s.cfg.chipSeq.initRegs = l
  induction l generalizing s with
  | nil => exact ControlOf.refl s
  | cons e l ih => exact ((ControlOf.withModem s e.kind).trans (ControlOf.after _ _ _)).trans (ih _)

/-- The frame of mode control, field by field. -/
theorem ControlOf.eq {s t : State} (h : ControlOf s t) : t = { s with
    modem := t.modem, state := t.state, timer := t.timer, gpio := t.gpio, answers := t.answers, reads := t.reads,
    hist := t.hist } := by
  obtain ⟨m, st, tm, g, n, ev, rfl⟩ := h
  rfl

theorem ControlOf.cfg {s t : State} (h : ControlOf s t) : t.cfg = s.cfg := by
  obtain ⟨m, st, tm, g, n, ev, rfl⟩ := h
  rfl

@[simp] theorem withModem_cfg (s : State) (k : ModemKind) : (s.withModem k).cfg = s.cfg := (ControlOf.withModem s k).cfg
@[simp] theorem withModem_modem (s : State) (k : ModemKind) : (s.withModem k).modem = k := by rw [withModem_eq]; rfl
@[simp] theorem withModem_fsk (s : State) (k : ModemKind) : (s.withModem k).fsk = s.fsk := by rw [withModem_eq]; rfl
@[simp] theorem withModem_lora (s : State) (k : ModemKind) : (s.withModem k).lora = s.lora := by rw [withModem_eq]; rfl
@[simp] theorem withModem_fskPh (s : State) (k : ModemKind) : (s.withModem k).fskPh = s.fskPh := by
  rw [withModem_eq]; rfl
@[simp] theorem withModem_channel (s : State) (k : ModemKind) : (s.withModem k).channel = s.channel := by
  rw [withModem_eq]; rfl
@[simp] theorem withModem_cbSet (s : State) (k : ModemKind) : (s.withModem k).cbSet = s.cbSet := by
  rw [withModem_eq]; rfl
@[simp] theorem withModem_draws (s : State) (k : ModemKind) : (s.withModem k).draws = s.draws := by
  rw [withModem_eq]; rfl
@[simp] theorem withModem_drawn (s : State) (k : ModemKind) : (s.withModem k).drawn = s.drawn := by
  rw [withModem_eq]; rfl

/-! ### Initialisation and configuration (R148, R211, R212, R124, R221) -/

theorem radioReset_eq (s : State) : radioReset s =
    { s.after 0 [.rstLow, .wait s.cfg.resetLowMs, .rstRelease, .wait s.cfg.resetWaitMs] with rst := .released } := by
  simp only [radioReset, record, wait, State.after, List.append_assoc, List.cons_append, List.nil_append,
    List.drop_zero, Nat.add_zero]

theorem loadDefaultRegisters_eq (s : State) : loadDefaultRegisters s = s.withDefaults := by
  rw [loadDefaultRegisters, State.withDefaults]
  congr 1
  funext u e
  rw [applyInit, setModem_eq, regWrite_eq]

theorem setChannelOp_eq (f : Word) (s : State) : setChannelOp f s =
    { s.after (seqReads (channelWrites s.cfg f)) (seqEvents (answer s) 0 (channelWrites s.cfg f)) with channel := f } := by
  rw [setChannelOp, applySeq_eq]
  rfl

theorem setRfTxPower_eq (p : Byte) (s : State) :
    setRfTxPower p s = s.after 2 (powerEvents s.cfg (answer s) 0 p) := by
  simp only [setRfTxPower, regRead_eq, regWrite_eq, after_after, answer_after]
  rfl

theorem setPublicNetworkOp_eq (e : Bool) (s : State) : setPublicNetworkOp e s =
    { (s.withModem .lora).after 0 [writeOf s.cfg.regmap.lrSyncWord (syncword s.cfg e)] with
      lora := { s.lora with publicNetwork := e } } := by
  simp only [setPublicNetworkOp, setModem_eq, regWrite_eq, withModem_eq]
  rfl

/-! ### Transmission (R162, R164) -/

theorem captureFifoThresh_eq (s : State) : captureFifoThresh s =
    { s.after 1 [readOf s.cfg.regmap.fifoThresh (answer s 0)] with
      fskPh := { s.fskPh with fifoThresh := answer s 0 &&& s.cfg.regmap.fifoThreshMask } } := rfl

theorem wakeIfSleep_eq (s : State) : wakeIfSleep s =
    (s.after (wakeReads s.cfg (answer s 0)) (wakeEvents s.cfg (answer s) 0)).put s.modem
      (if sleeps s.cfg (answer s 0) then .idle else s.state)
      (if sleeps s.cfg (answer s 0) then .disarmed else s.timer) (wakeLevels s.cfg (answer s) 0 s.gpio) := by
  simp only [wakeIfSleep, regRead_eq, wakeReads, wakeEvents, wakeLevels, sleeps]
  by_cases h : answer s 0 &&& ~~~s.cfg.regmap.opmodeModeMask = s.cfg.regmap.modeSleep
  · simp only [h, if_true, decide_true, standbyOp_eq, wait_eq, put_after, after_after, answer_after_fun, State.after_cfg,
      State.after_modem, State.after_gpio, modeEvents_shift, Nat.add_zero, Nat.zero_add, Nat.reduceAdd,
      List.cons_append, List.nil_append]
  · simp only [h, if_false, decide_false, Bool.false_eq_true]
    rfl

/-- `TRANSMIT` in the normal form: what it shows, the threshold it captures, then the control fields. -/
theorem transmit_eq (ms : Word) (s : State) : transmit ms s =
    ({ s.after (transmitReads s + modeReads s.cfg .transmitter) (transmitEvents s 0 ms) with
      fskPh := { s.fskPh with fifoThresh := transmitThresh s 0 } } : State).put s.modem .txRunning (.armed ms)
      (transmitLevels s 0 s.gpio) := by
  rw [transmit]
  cases hm : s.modem with
  | fsk =>
    refine State.ext_trace ?_ ?_ ?_ ?_ <;>
      simp only [applySeq_eq, captureFifoThresh_eq, timerStart_eq, setOperationMode_eq, hm, transmitReads, transmitEvents,
        transmitThresh, transmitLevels, if_true, State.after, State.put, answer, List.append_assoc, List.cons_append,
        List.nil_append, List.drop_drop, Nat.zero_add, Nat.add_zero, Nat.add_assoc, modeEvents, modeReads,
        List.getD_eq_getElem?_getD, List.getElem?_drop]
  | lora =>
    refine State.ext_trace ?_ ?_ ?_ ?_ <;>
      simp only [applySeq_eq, timerStart_eq, setOperationMode_eq, hm, transmitReads, transmitEvents,
        transmitThresh, transmitLevels, reduceCtorEq, if_false, State.after, State.put, answer, List.append_assoc,
        List.cons_append, List.nil_append, List.drop_drop, Nat.zero_add, Nat.add_zero, Nat.add_assoc, modeEvents,
        modeReads, List.getD_eq_getElem?_getD, List.getElem?_drop]

/-- The length of an FSK body on its way out (R161). -/
theorem sendFskLength_eq (size : Byte) (s : State) : sendFskLength size s = s.after 0
    (if s.fsk.fixLen then [writeOf s.cfg.regmap.payloadLength size] else [.busWrite regFifo [size]]) := by
  rw [sendFskLength]
  cases s.fsk.fixLen <;> rfl

/-- The answers of a state that has consumed `n` of the answers of another. -/
theorem answer_of_drop {s u : State} {n : Nat} (ha : u.answers = s.answers.drop n) (hr : u.reads = s.reads + n) :
    answer u = fun k => answer s (n + k) := by
  rw [← answer_after_fun s n [], answer_congr (t := s.after n []) ha hr]

/-- What `TRANSMIT` shows and leaves from a state that differs from `s` in answers consumed and in fields it does not
read. -/
theorem transmit_of {s u : State} {n : Nat} (hc : u.cfg = s.cfg) (hm : u.modem = s.modem) (hl : u.lora = s.lora)
    (hf : u.fskPh.fifoThresh = s.fskPh.fifoThresh) (ha : u.answers = s.answers.drop n) (hr : u.reads = s.reads + n)
    (k : Nat) (ms : Word) (g : Gpio) :
    transmitReads u = transmitReads s ∧ transmitEvents u k ms = transmitEvents s (n + k) ms ∧
      transmitThresh u k = transmitThresh s (n + k) ∧ transmitLevels u k g = transmitLevels s (n + k) g := by
  have hr' : transmitReads u = transmitReads s := by simp only [transmitReads, hc, hm, hl]
  refine ⟨hr', ?_, ?_, ?_⟩
  · simp only [transmitEvents, hr', hc, hm, hl, answer_of_drop ha hr, seqEvents_shift, modeEvents_shift, Nat.add_assoc]
  · simp only [transmitThresh, hc, hm, hl, hf, answer_of_drop ha hr, Nat.add_assoc]
  · simp only [transmitLevels, hr', hc, answer_of_drop ha hr, Nat.add_assoc]

/-! ### Reception (R181 to R190) -/

theorem clearFskPacketState_eq (s : State) :
    clearFskPacketState s = { s with fskPh := clearedPacket s.fskPh } := rfl

theorem fskRxEnd_eq (s : State) : fskRxEnd s =
    (s.after (fskEndReads s) (fskEndEvents s 0)).received s.fsk.rxContinuous := by
  rw [fskRxEnd, fskEndReads, fskEndEvents]
  cases s.fsk.rxContinuous with
  | false => rfl
  | true => exact regSet_eq _ _ _ _

theorem received_after (s : State) (c : Bool) (n : Nat) (l : List Event) :
    (s.received c).after n l = (s.after n l).received c := by cases c <;> rfl

@[simp] theorem received_fskPh (s : State) (c : Bool) : (s.received c).fskPh = s.fskPh := by cases c <;> rfl
@[simp] theorem received_loraPh (s : State) (c : Bool) : (s.received c).loraPh = s.loraPh := by cases c <;> rfl
@[simp] theorem received_cbSet (s : State) (c : Bool) : (s.received c).cbSet = s.cbSet := by cases c <;> rfl
@[simp] theorem received_dataBuf (s : State) (c : Bool) : (s.received c).dataBuf = s.dataBuf := by cases c <;> rfl
@[simp] theorem received_cfg (s : State) (c : Bool) : (s.received c).cfg = s.cfg := by cases c <;> rfl

theorem fskEndEvents_after (s : State) (n : Nat) (l : List Event) (k : Nat) :
    fskEndEvents (s.after n l) k = fskEndEvents s (n + k) := by
  simp only [fskEndEvents, State.after_fsk, State.after_cfg, answer_after]

theorem fskRxAbort_eq (s : State) : fskRxAbort s = s.aborted 0 [] := by
  simp only [fskRxAbort, applySeq_eq, fskRxEnd_eq, emit_eq, clearFskPacketState_eq, received_after, received_cbSet,
    after_after, fskEndEvents_after, State.aborted, abortReads, abortEvents, State.after_cbSet, State.after_fsk,
    received_fskPh, State.after_fskPh, fskEndReads, Nat.zero_add, Nat.add_zero, List.nil_append, List.append_assoc]
  rfl

/-- An abort after other reads, seen from the state before them. -/
theorem aborted_after (s : State) (n : Nat) (l : List Event) :
    (s.after n l).aborted 0 [] = s.aborted n l := by
  simp only [State.aborted, abortReads, abortEvents, fskEndReads, State.after_cfg, State.after_fsk, State.after_cbSet,
    State.after_fskPh, after_after, fskEndEvents_after, seqEvents_after, Nat.zero_add, Nat.add_zero, List.nil_append,
    List.append_assoc]
  rfl

theorem readLength_eq (s : State) : readLength s = (answer s 0, s.after 1 (lengthEvents s (answer s 0))) := by
  rw [readLength, lengthEvents]
  cases s.fsk.fixLen <;> rfl

/-- `FskExtractLength` (R182): nothing where a length is known; otherwise one byte, and the abort of an over-long packet. -/
theorem fskExtractLength_eq (s : State) : fskExtractLength s =
    if lengthUnknown s then
      if (answer s 0).toNat > s.cfg.maxDataBufferSize then (false, s.aborted 1 (lengthEvents s (answer s 0)))
      else (true, { s.after 1 (lengthEvents s (answer s 0)) with
        fskPh := { s.fskPh with size := (answer s 0).setWidth 16 } })
    else (true, s) := by
  rw [fskExtractLength, lengthUnknown]
  by_cases h : s.fskPh.size = 0 ∧ s.fskPh.nbBytes = 0
  · simp only [if_pos h, decide_eq_true h, if_true, readLength_eq, fskRxAbort_eq, aborted_after]
    rfl
  · rw [if_neg h, decide_eq_false h]
    rfl

/-- `CaptureFskReadings` (R190). -/
theorem captureFskReadings_eq (s : State) : captureFskReadings s =
    { s.after 4 [readOf s.cfg.regmap.rssiValue (answer s 0), readOf s.cfg.regmap.afcMsb (answer s 1),
        readOf s.cfg.regmap.afcLsb (answer s 2), readOf s.cfg.regmap.lna (answer s 3)] with
      fskPh := { s.fskPh with
        rssiValue := BitVec.ofInt 16 (fskRssi (answer s 0)), afcValue := answer s 1 ++ answer s 2,
        rxGain := (answer s 3 >>> 5) &&& 0x07 } } := by
  simp only [captureFskReadings, regRead_eq, after_after, answer_after]
  rfl

theorem answered_eq (s : State) (n : Nat) : answered s n = answersFrom s 0 n := by
  simp only [answered, answersFrom, Nat.zero_add]

@[simp] theorem answersFrom_length (s : State) (k n : Nat) : (answersFrom s k n).length = n := by simp [answersFrom]

theorem fifoRead_eq' (n : Nat) (s : State) :
    fifoRead n s = (answersFrom s 0 n, s.after n (fifoReadOf (answersFrom s 0 n))) := by
  rw [fifoRead_eq, answered_eq, fifoReadOf, answersFrom_length]

theorem fifoWrite_eq' (l : List Byte) (s : State) : fifoWrite l s = s.after 0 (fifoWriteOf l) := fifoWrite_eq l s

/-- A drain of `n` bytes (R185, R193). -/
theorem drainFsk_eq (n : Nat) (s : State) : drainFsk n s =
    { s.after n (fifoReadOf (answersFrom s 0 n)) with
      dataBuf := Memory.writeList s.dataBuf s.fskPh.nbBytes.toNat (answersFrom s 0 n),
      fskPh := { s.fskPh with nbBytes := s.fskPh.nbBytes + BitVec.ofNat 16 n } } := by
  rw [drainFsk, fifoRead_eq']
  rfl

/-- A refill of `n` bytes (R193). -/
theorem refillFsk_eq (n : Nat) (s : State) : refillFsk n s =
    { s.after 0 (fifoWriteOf (memRead s.fskPh.nbBytes.toNat n s)) with
      fskPh := { s.fskPh with nbBytes := s.fskPh.nbBytes + BitVec.ofNat 16 n } } := by
  rw [refillFsk, fifoWrite_eq']
  rfl

theorem loraRxEnd_eq (s : State) : loraRxEnd s =
    (s.after 0 (if s.lora.rxContinuous then [] else [.timerCancel])).received s.lora.rxContinuous := by
  rw [loraRxEnd]
  cases s.lora.rxContinuous with
  | true => exact (after_nil s).symm
  | false => rfl

/-- The readings of a LoRa packet (R186 to R188). -/
theorem captureLoraReadings_eq (s : State) : captureLoraReadings s =
    { s.after 2 [readOf s.cfg.regmap.lrPktSnrValue (answer s 0), readOf s.cfg.regmap.lrPktRssiValue (answer s 1)] with
      loraPh := { s.loraPh with
        snrValue := BitVec.ofInt 8 (snrOf s.cfg.snrWidth (answer s 0)),
        rssiValue := rssiField (loraRssi s.cfg.rssiOffset (answer s 1) (snrOf s.cfg.snrWidth (answer s 0))) } } := by
  simp only [captureLoraReadings, regRead_eq, after_after, answer_after]
  rfl

theorem answersFrom_after (s : State) (n : Nat) (l : List Event) (k m : Nat) :
    answersFrom (s.after n l) k m = answersFrom s (n + k) m := by
  simp only [answersFrom, answer_after, Nat.add_assoc]

/-- `LoraDrain(len)` (R189). -/
theorem loraDrain_eq (len : Byte) (s : State) : loraDrain len s =
    { s.after (1 + len.toNat) ([readOf s.cfg.regmap.lrFifoRxCurrentAddr (answer s 0),
        writeOf s.cfg.regmap.lrFifoAddrPtr (answer s 0)] ++ fifoReadOf (answersFrom s 1 len.toNat)) with
      dataBuf := Memory.writeList s.dataBuf 0 (answersFrom s 1 len.toNat) } := by
  simp only [loraDrain, regRead_eq, regWrite_eq, fifoRead_eq', after_after, answersFrom_after, Nat.add_zero]
  rfl

/-! ### Polls (R226, R227) -/

/-- What `n` polls of `RANDOM` show, the first answer being `answers k` (R226). -/
def randomEvents (c : Config) (answers : Nat → Byte) (k n : Nat) : List Event :=
  (List.range n).flatMap (fun i => [.wait c.pollMs, readOf c.regmap.lrRssiWideband (answers (k + i))])

/-- The polls of `RANDOM` touch the chip alone. -/
theorem randomLoop_state (n : Nat) (v : Word) (s : State) :
    (randomLoop n v s).2 = s.after n (randomEvents s.cfg (answer s) 0 n) := by
  induction n generalizing v s with
  | zero => exact (after_nil s).symm
  | succ n ih =>
    rw [randomLoop, ih, regRead_eq, wait_eq, after_after, after_after]
    simp only [randomEvents, List.range_succ_eq_map, List.flatMap_cons, List.flatMap_map, State.after_cfg, answer_after,
      Nat.zero_add, Nat.add_comm 1, List.cons_append, List.nil_append, Nat.succ_eq_add_one]

/-- The register `CurrentRssi` reads (R227). -/
def rssiAddr (c : Config) : ModemKind → Addr
  | .fsk => c.regmap.rssiValue
  | .lora => c.regmap.lrRssiValue

/-- What `CurrentRssi` makes of the answer (R227). -/
def rssiDbm (c : Config) (v : Byte) : ModemKind → Int
  | .fsk => -((v.toNat / 2 : Nat) : Int)
  | .lora => c.rssiOffset + v.toNat

theorem currentRssi_eq (m : ModemKind) (s : State) : currentRssi m s =
    (rssiDbm s.cfg (answer s 0) m, s.after 1 [readOf (rssiAddr s.cfg m) (answer s 0)]) := by cases m <;> rfl

/-- What `j` polls of `PERFORM_CARRIER_SENSE` show: a wait after each, but for the one that ends them (R227). -/
def senseEvents (addr : Addr) (c : Config) (answers : Nat → Byte) (j : Nat) (free : Bool) : List Event :=
  (List.range j).flatMap (fun k =>
    readOf addr (answers k) :: if k + 1 = j ∧ free = false then [] else [.wait c.pollMs])

/-- The polls of `PERFORM_CARRIER_SENSE` (R227): all of them under the threshold, or up to the first above it. -/
theorem senseLoop_spec (m : ModemKind) (th : Int) (N : Nat) (s : State) : ∃ (j : Nat) (free : Bool), j ≤ N ∧
    (free = true → j = N ∧ ∀ k, k < N → rssiDbm s.cfg (answer s k) m ≤ th) ∧
    (free = false → 0 < j ∧ rssiDbm s.cfg (answer s (j - 1)) m > th ∧
      ∀ k, k < j - 1 → rssiDbm s.cfg (answer s k) m ≤ th) ∧
    senseLoop m th N s = (free, s.after j (senseEvents (rssiAddr s.cfg m) s.cfg (answer s) j free)) := by
  induction N generalizing s with
  | zero => exact ⟨0, true, by omega, by simp, by simp, by rw [senseLoop]; simp [senseEvents, after_nil]⟩
  | succ N ih =>
    rw [senseLoop, currentRssi_eq]
    by_cases h : rssiDbm s.cfg (answer s 0) m > th
    · refine ⟨1, false, by omega, by simp, fun _ => ⟨by omega, h, by simp⟩, ?_⟩
      simp only [if_pos h, senseEvents, List.range_one, List.flatMap_cons, List.flatMap_nil, Nat.zero_add, and_self,
        if_true, List.append_nil]
    · obtain ⟨j, free, h1, h2, h3, h4⟩ := ih (s.after 1 [readOf (rssiAddr s.cfg m) (answer s 0), .wait s.cfg.pollMs])
      simp only [if_neg h, wait_eq, after_after, List.cons_append, List.nil_append]
      simp only [State.after_cfg, answer_after_fun, Nat.add_comm 1] at h2 h3 h4
      refine ⟨j + 1, free, by omega, fun hf => ⟨?_, ?_⟩, fun hf => ⟨by omega, ?_, ?_⟩, ?_⟩
      · have := (h2 hf).1
        omega
      · rintro (_ | k) hk
        · omega
        · exact (h2 hf).2 k (by omega)
      · obtain ⟨ha, hb, -⟩ := h3 hf
        rwa [show j - 1 + 1 = j + 1 - 1 by omega] at hb
      · rintro (_ | k) hk
        · omega
        · exact (h3 hf).2.2 k (by omega)
      · rw [Nat.add_zero, h4, after_after, Nat.add_comm 1]
        simp only [senseEvents, List.range_succ_eq_map, List.flatMap_cons, List.flatMap_map, List.cons_append,
          List.nil_append, Nat.succ_eq_add_one, Nat.add_right_cancel_iff]
        cases free with
        | false =>
          have := (h3 rfl).1
          rw [if_neg (by omega)]
          rfl
        | true =>
          rw [if_neg (by simp)]
          rfl

end Sys2Proof.Machine
end

