-- ==== Sys2Proof/Tests/Slice0.lean ====
section
/-! SUPPORT. Tests of the model: the well-formedness smoke test, one word written from the spec's encoding for every
constructor, the vectors of 95_test_vectors.md (each test names its own), and the witnesses: for every statement with
hypotheses, concrete values that meet them, clause by clause at the edges. -/

namespace Sys2Proof.Tests

open Sys2Proof Sys2Proof.Machine

/-! ### Helpers -/

/-- After `init_radio callbacks=0x7F` (95, P2's start state). -/
def ready : State := { State.reset with cbSet := 0x7F, irqArmed := true }

/-- `ready` under other parameters. -/
def under (c : Config) : State := { ready with cfg := c }

/-- `WIRING` of scheme A, with `pwr_amp_ctl` connected. -/
def wiredA : State := under { defaultConfig with wiring := ⟨true, true, false, false, false, true, false, defaultLevels⟩ }

/-- `WIRING` of scheme B. -/
def wiredB : State := under { defaultConfig with wiring := ⟨false, false, true, true, false, false, false, defaultLevels⟩ }

/-- `WIRING` of scheme C. -/
def wiredC : State := under { defaultConfig with wiring := ⟨false, false, false, false, true, false, false, defaultLevels⟩ }

/-- A state with a modem and a state of the block. -/
def busy (m : ModemKind) (st : RadioState) : State := { ready with modem := m, state := st }

/-- `T` holds of the next state, which used up every scripted answer and recorded these events. -/
def nextIs (o : Result) (ev : List Event) (T : State → Bool) : Bool :=
  match o with
  | .next t => t.hist == ev && t.answers == [] && T t
  | .fault _ => false
  | .refused _ => false

/-- The frame on `CMD`, against these answers of the chip, records these events. -/
def frameShows (f answers : List Byte) (s : State) (ev : List Event) (T : State → Bool) : Bool :=
  nextIs (step { s with inputs := [.frame f], answers := answers }) ev T

/-- The instruction, against these answers of the chip, records these events. -/
def execShows (i : Instr) (answers : List Byte) (s : State) (ev : List Event) (T : State → Bool) : Bool :=
  nextIs (exec i { s with answers := answers }) ev T

/-- Nothing further is asked of the next state. -/
def any (_ : State) : Bool := true

/-- `R aa -> vv`. -/
abbrev R (a : Addr) (v : Byte) : Event := .busRead a [v]

/-- `W aa <- vv`. -/
abbrev W (a : Addr) (v : Byte) : Event := .busWrite a [v]

/-- `WF [..]`. -/
abbrev WF (l : List Byte) : Event := .busWrite 0 l

/-- `RF n -> [..]`. -/
abbrev RF (l : List Byte) : Event := .busRead 0 l

/-- `RSP ..`. -/
abbrev RSP (l : List Byte) : Event := .response l

/-- `CB ..`. -/
abbrev CB (l : List Byte) : Event := .callback l

/-! ### Well-formedness: an ill-formed term for each check -/

theorem test_wf_send_short : (Instr.send 3 [1, 2]).wellFormed = false := by decide
theorem test_wf_antenna_sleep : (Instr.setAntennaSwitch .sleep).wellFormed = false := by decide
theorem test_wf_write_fifo_alias : (Instr.writeRegister 0 1).wellFormed = false := by decide
theorem test_wf_write_burst_fifo : (Instr.writeRegisters 0 [1, 2]).wellFormed = false := by decide
theorem test_wf_write_burst_one : (Instr.writeRegisters 6 [1]).wellFormed = false := by decide
theorem test_wf_read_fifo_alias : (Instr.readRegister 0).wellFormed = false := by decide
theorem test_wf_read_burst_fifo : (Instr.readRegisters 0 2).wellFormed = false := by decide
theorem test_wf_read_burst_one : (Instr.readRegisters 6 1).wellFormed = false := by decide
theorem test_wf_write_fifo_none : (Instr.writeFifo []).wellFormed = false := by decide
theorem test_wf_read_fifo_none : (Instr.readFifo 0).wellFormed = false := by decide
theorem test_wf_fsk_airtime : (Instr.fskTimeOnAir 0 0 0 0 0 (2 ^ 32)).wellFormed = false := by decide
theorem test_wf_lora_airtime :
    (Instr.loraTimeOnAir 0 0 0 0 (2 ^ 32) false false false).wellFormed = false := by decide
theorem test_wf_config_buffer : Config.wellFormed { defaultConfig with maxDataBufferSize := 0 } = false := by decide
theorem test_wf_config_reset_low : Config.wellFormed { defaultConfig with resetLowMs := 1 } = false := by decide
theorem test_wf_config_reset_wait : Config.wellFormed { defaultConfig with resetWaitMs := 5 } = false := by decide
theorem test_wf_config_poll : Config.wellFormed { defaultConfig with pollMs := 0 } = false := by decide
theorem test_wf_config_burst :
    Config.wellFormed { defaultConfig with fifoBurst := 66 } = false := by decide
theorem test_wf_config_single :
    Config.wellFormed { defaultConfig with fskSingleWriteMax := 256 } = false := by decide
theorem test_wf_config_burst_byte :
    Config.wellFormed { defaultConfig with fskSingleWriteMax := 255, fifoBurst := 256 } = false := by decide
theorem test_wf_config_table_short :
    Config.wellFormed { defaultConfig with fskBwTable := [⟨2600, 0x17⟩] } = false := by decide
theorem test_wf_config_table_order :
    Config.wellFormed { defaultConfig with fskBwTable := [⟨3100, 0x0F⟩, ⟨3100, 0x17⟩] } = false := by decide
theorem test_wf_default_config : defaultConfig.wellFormed = true := by decide

/-! ### Decoding: a word from the spec's encoding for each constructor

The command frames are those of 95 (groups E, F, S3, S4, P1) and of the table of R87, the event bits those of R91, the bus
frames those of 95 group A, the micro-operation identifiers those of R93 (operand bytes: log entry 4). -/

theorem test_decode_init_radio : decodeCommand [0x00, 0x7F] = .ok (.initRadio 0x7F) := by decide
theorem test_decode_set_channel :
    decodeCommand [0x01, 0xA0, 0x27, 0xBE, 0x33] = .ok (.setChannel 868100000) := by decide
theorem test_decode_get_status : decodeCommand [0x02] = .ok .getStatus := by decide
theorem test_decode_sleep : decodeCommand [0x03] = .ok .sleep := by decide
theorem test_decode_standby : decodeCommand [0x04] = .ok .standby := by decide
theorem test_decode_set_rx_config :
    decodeCommand [0x05, 0x00, 0x50, 0xC3, 0x00, 0x00, 0xC0, 0x12, 0x00, 0x00, 0x00, 0x85, 0x45, 0x01, 0x00, 0x05, 0x00,
      0x00, 0x00, 0x00, 0x00, 0x01, 0x00, 0x00, 0x00, 0x01] =
    .ok (.setRxConfig ⟨.fsk, 50000, 4800, 0, 83333, 5, 0, false, 0, true, false, 0, false, true⟩) := by decide
theorem test_decode_set_tx_config :
    decodeCommand [0x06, 0x01, 0x0E, 0x00, 0x00, 0x00, 0x00, 0x48, 0xE8, 0x01, 0x00, 0x07, 0x00, 0x00, 0x00, 0x01, 0x08,
      0x00, 0x00, 0x01, 0x00, 0x00, 0x00, 0xB8, 0x0B, 0x00, 0x00] =
    .ok (.setTxConfig ⟨.lora, 14, 0, 125000, 7, 1, 8, false, true, false, 0, false, 3000⟩) := by decide
theorem test_decode_send : decodeCommand [0x07, 0x03, 0x01, 0x02, 0x03] = .ok (.send 3 [1, 2, 3]) := by decide
theorem test_decode_send_empty : decodeCommand [0x07, 0x00] = .ok (.send 0 []) := by decide
theorem test_decode_receive : decodeCommand [0x08] = .ok .receive := by decide
theorem test_decode_start_cad : decodeCommand [0x09] = .ok .startCad := by decide
theorem test_decode_continuous_wave :
    decodeCommand [0x0A, 0xA0, 0x27, 0xBE, 0x33, 0x0E, 0x05, 0x00] = .ok (.setTxContinuousWave 868100000 14 5) := by decide
theorem test_decode_max_payload : decodeCommand [0x0B, 0x01, 0x40] = .ok (.setMaxPayloadLength .lora 64) := by decide
theorem test_decode_public_network : decodeCommand [0x0C, 0x01] = .ok (.setPublicNetwork true) := by decide
theorem test_decode_carrier_sense :
    decodeCommand [0x0D, 0x01, 0xA0, 0x27, 0xBE, 0x33, 0xA6, 0xFF, 0x05, 0x00, 0x00, 0x00] =
    .ok (.performCarrierSense .lora 868100000 (-90) 5) := by decide
theorem test_decode_time_on_air : decodeCommand [0x0E, 0x00, 0x14] = .ok (.timeOnAir .fsk 20) := by decide
theorem test_decode_random : decodeCommand [0x0F] = .ok .random := by decide
theorem test_decode_check_frequency :
    decodeCommand [0x10, 0xFF, 0xFF, 0xFF, 0xFF] = .ok (.checkRfFrequency 4294967295) := by decide
theorem test_decode_lock : decodeCommand [0x11] = .ok .lock ∧ decodeCommand [0x12] = .ok .unlock := by decide

theorem test_decode_events :
    decodeEvent [0x01] = .ok .dio0Irq ∧ decodeEvent [0x02] = .ok .dio1Irq ∧ decodeEvent [0x04] = .ok .dio2Irq ∧
    decodeEvent [0x08] = .ok .dio3Irq ∧ decodeEvent [0x10] = .ok .dio4Irq ∧ decodeEvent [0x20] = .ok .dio5Irq ∧
    decodeEvent [0x40] = .ok .timeoutIrq := by decide

theorem test_decode_write_register : decodeBus [0xFF, 0x00] = .ok (.writeRegister 0x7F 0) := by decide
theorem test_decode_write_registers :
    decodeBus [0x86, 0xD9, 0x06, 0x66] = .ok (.writeRegisters 0x06 [0xD9, 0x06, 0x66]) := by decide
theorem test_decode_read_register : decodeBus [0x01, 0x00] = .ok (.readRegister 0x01) := by decide
theorem test_decode_read_registers : decodeBus [0x1B, 0x00, 0x00] = .ok (.readRegisters 0x1B 2) := by decide
theorem test_decode_write_fifo : decodeBus [0x80, 0x03] = .ok (.writeFifo [0x03]) := by decide
theorem test_decode_read_fifo : decodeBus [0x00, 0x00, 0x00] = .ok (.readFifo 2) := by decide

theorem test_decode_micro_mode :
    decodeMicro [0x80, 0x07] = .ok (.setOperationMode .cad) ∧ decodeMicro [0x81, 0x01] = .ok (.setModem .lora) ∧
    decodeMicro [0x82] = .ok .radioReset ∧ decodeMicro [0x83, 0xB8, 0x0B, 0x00, 0x00] = .ok (.transmit 3000) ∧
    decodeMicro [0x84, 0x03] = .ok (.setAntennaSwitch .transmitter) ∧ decodeMicro [0x85] = .ok .antennaLowPower ∧
    decodeMicro [0x86] = .ok .loadDefaultRegisters := by decide
theorem test_decode_micro_calc :
    decodeMicro [0x87, 0xF6] = .ok (.setRfTxPower (-10)) ∧
    decodeMicro [0x88, 0x48, 0xE8, 0x01, 0x00] = .ok (.fskBandwidthCode 125000) ∧
    decodeMicro [0x89, 0x19, 0x01] = .ok (.txPowerEncode 25 .paBoost) ∧ decodeMicro [0x8C] = .ok .fskRxAbort := by decide
theorem test_decode_micro_fsk_airtime :
    decodeMicro [0x8A, 5, 0, 0, 0, 3, 0, 0, 0, 0, 0, 0, 0, 20, 0, 0, 0, 2, 0, 0, 0, 0xC0, 0x12, 0, 0] =
    .ok (.fskTimeOnAir 5 3 0 20 2 4800) := by decide
theorem test_decode_micro_lora_airtime :
    decodeMicro [0x8B, 0x48, 0xE8, 1, 0, 7, 0, 0, 0, 1, 0, 0, 0, 8, 0, 0, 0, 64, 0, 0, 0, 1, 0, 0] =
    .ok (.loraTimeOnAir 125000 7 1 8 64 true false false) := by decide

/-- 95, group E: the refused frames, each for its own reason. -/
theorem test_refused_frames :
    decodeCommand [0x13] = .rejected (.unknownOpcode 0x13) ∧ decodeCommand [0xFF] = .rejected (.unknownOpcode 0xFF) ∧
    decodeCommand [0x80, 0x03] = .rejected (.unknownOpcode 0x80) ∧ decodeCommand [] = .rejected .empty ∧
    decodeCommand [0x02, 0x00] = .rejected .badLength ∧ decodeCommand [0x01, 0xA0, 0x27, 0xBE] = .rejected .badLength ∧
    decodeCommand [0x07, 0x03, 0x01, 0x02] = .rejected .badLength ∧
    decodeCommand [0x0B, 0x02, 0x40] = .rejected (.badModem 2) := by decide

/-- R94: length before `modem` before the bandwidth, as 95 group E has it. -/
theorem test_frame_check_order :
    decodeCommand ([0x05, 0x02, 0xE0, 0x93, 0x04] ++ List.replicate 20 0) = .rejected .badLength ∧
    decodeCommand ([0x05, 0x02, 0xE0, 0x93, 0x04] ++ List.replicate 21 0) = .rejected (.badModem 2) ∧
    frameShows ([0x05, 0x00, 0xE0, 0x93, 0x04] ++ List.replicate 21 0) [] ready [RSP [1]] any = true := by decide

/-- Bus and event bytes that are no instruction. -/
theorem test_bus_rejects :
    decodeBus [] = .rejected .empty ∧ decodeBus [0x81] = .rejected .badLength ∧
    decodeBus [0x01, 0x55] = .rejected .badFiller ∧ decodeEvent [0x03] = .rejected .notOneEvent ∧
    decodeEvent [0x00] = .rejected .notOneEvent ∧ decodeMicro [0x80, 0x02] = .rejected (.badOperand 2) := by decide

/-- Log entry 5: table words, and that the very next step from reset runs them. -/
theorem test_table_words :
    decodeTableWord 40 0x33BE27A001 = some (.setChannel 868100000) ∧ decodeTableWord 8 0x05 =
      some (.setRxConfig ⟨.fsk, 0, 0, 0, 0, 0, 0, false, 0, false, false, 0, false, false⟩) ∧
    decodeTableWord 8 0x82 = some .radioReset ∧ decodeTableWord 8 0x40 = some .timeoutIrq := by decide
theorem test_fetch_runs :
    nextIs (step (State.reset.withFetchWord 8 0x11)) [RSP [0]] (fun t => t.lock == 1) = true ∧
    nextIs (step (State.reset.withFetchWord 8 0x85)) [] any = true ∧
    nextIs (step (State.reset.withFetchWord 8 0x40)) [] (fun t => t.worker == .waiting) = true := by decide

/-! ### Commands (95, groups C, D, F, and S3, S4) -/

/-- F row 1. -/
theorem test_init_radio :
    frameShows [0x00, 0x7F] [1, 0] State.reset
      [.rstLow, .wait 2, .rstRelease, .wait 6, R 1 1, W 1 0, R 1 0, .timerCancel, RSP [0]]
      (fun t => t.cbSet == 0x7F && t.modem == .fsk && t.state == .idle && t.irqArmed) = true := by decide
/-- F row 2. -/
theorem test_init_radio_bit_7 :
    frameShows [0x00, 0x80] [1, 0] State.reset
      [.rstLow, .wait 2, .rstRelease, .wait 6, R 1 1, W 1 0, R 1 0, .timerCancel, RSP [0]]
      (fun t => t.cbSet == 0) = true := by decide
/-- F row 3. -/
theorem test_set_channel :
    frameShows [0x01, 0xA0, 0x27, 0xBE, 0x33] [] ready [W 6 0xD9, W 7 0x06, W 8 0x66, RSP [0]]
      (fun t => t.channel == 868100000) = true := by decide
/-- F row 5. -/
theorem test_get_status :
    frameShows [0x02] [] (busy .lora .cad) [RSP [0, 3]] any = true := by decide
/-- C row 8. -/
theorem test_sleep :
    frameShows [0x03] [0x83] { wiredC with state := .txRunning, timer := .armed 3000 }
      [.timerCancel, .gpioSet .antSwitch false, R 1 0x83, W 1 0x80, RSP [0]]
      (fun t => t.state == .idle && t.timer == .disarmed) = true := by decide
/-- C row 13. -/
theorem test_sleep_keeps_pending :
    frameShows [0x03] [0x83] { ready with pending := 1 } [.timerCancel, R 1 0x83, W 1 0x80, RSP [0]]
      (fun t => t.pending == 1) = true := by decide
/-- C row 9. -/
theorem test_standby :
    frameShows [0x04] [0x85] { wiredB with state := .rxRunning }
      [.timerCancel, .gpioSet .txctl false, .gpioSet .rxctl false, R 1 0x85, W 1 0x81, RSP [0]]
      (fun t => t.state == .idle) = true := by decide
/-- F row 6. -/
theorem test_set_rx_config_fsk :
    frameShows [0x05, 0x00, 0x50, 0xC3, 0x00, 0x00, 0xC0, 0x12, 0x00, 0x00, 0x00, 0x85, 0x45, 0x01, 0x00, 0x05, 0x00,
      0x00, 0x00, 0x00, 0x00, 0x01, 0x00, 0x00, 0x00, 0x01] [0] ready [R 1 0, RSP [0]]
      (fun t => t.fsk == ⟨0, 0, 50000, 83333, 4800, 5, false, 0, true, false, 0, false, true, 0, 0⟩) = true := by decide
/-- P4, `set_rx_config`. -/
theorem test_set_rx_config_lora :
    frameShows [0x05, 0x01, 0x48, 0xE8, 0x01, 0x00, 0x07, 0x00, 0x00, 0x00, 0x01, 0x00, 0x00, 0x00, 0x00, 0x08, 0x00,
      0x05, 0x00, 0x00, 0x00, 0x01, 0x00, 0x00, 0x00, 0x00] [0, 0, 0] wiredB
      [R 1 0, .timerCancel, .gpioSet .txctl false, .gpioSet .rxctl false, R 1 0, W 1 0, R 1 0, W 1 0x80, W 0x40 0,
        W 0x41 0, RSP [0]]
      (fun t => t.modem == .lora &&
        t.lora == ⟨0, 125000, 7, 1, false, 8, false, 0, true, false, 0, false, false, 5, 0, false⟩) = true := by decide
/-- P1, `set_tx_config` (scheme C, PA-boost, 14 dBm). -/
theorem test_set_tx_config_lora :
    frameShows [0x06, 0x01, 0x0E, 0x00, 0x00, 0x00, 0x00, 0x48, 0xE8, 0x01, 0x00, 0x07, 0x00, 0x00, 0x00, 0x01, 0x08,
      0x00, 0x00, 0x01, 0x00, 0x00, 0x00, 0xB8, 0x0B, 0x00, 0x00] [0, 0, 0, 0x0F, 0x84]
      { wiredC with cfg := { wiredC.cfg with paSelect := .paBoost } }
      [R 1 0, .timerCancel, .gpioSet .antSwitch false, R 1 0, W 1 0, R 1 0, W 1 0x80, W 0x40 0, W 0x41 0,
        R 9 0x0F, R 0x5A 0x84, W 9 0x8C, W 0x5A 0x84, RSP [0]]
      (fun t => t.lora == ⟨14, 125000, 7, 1, false, 8, false, 0, true, false, 0, false, false, 0, 3000, false⟩) = true := by
  decide
/-- P3, `set_tx_config` (RFO, 10 dBm), under a `TXCFG` that names a PA register, which R101 excludes. -/
theorem test_set_tx_config_fsk :
    frameShows [0x06, 0x00, 0x0A, 0xA8, 0x61, 0x00, 0x00, 0x00, 0x00, 0x00, 0x00, 0x50, 0xC3, 0x00, 0x00, 0x00, 0x05,
      0x00, 0x00, 0x01, 0x00, 0x00, 0x00, 0xD0, 0x07, 0x00, 0x00] [0, 0x0F, 0x84]
      (under { defaultConfig with chipSeq := { defaultConfig.chipSeq with txcfg := .steps [.w 9 0, .w 2 0x1A, .m 0x5A 0 0] } })
      [R 1 0, R 9 0x0F, R 0x5A 0x84, W 9 0x0B, W 0x5A 0x84, W 2 0x1A, RSP [0]]
      (fun t => t.fsk == ⟨10, 25000, 0, 0, 50000, 5, false, 0, true, false, 0, false, false, 2000, 0⟩) = true := by decide
/-- D1. -/
theorem test_send_fsk :
    frameShows [0x07, 3, 1, 2, 3] [1, 0, 0x30, 0x8F, 1] { ready with fsk := { ready.fsk with txTimeout := 3000 } }
      [R 1 1, WF [3], WF [1, 2, 3], R 0x40 0, W 0x40 0x10, R 0x41 0x30, W 0x41 0x30, R 0x35 0x8F, .timerStart 3000,
        R 1 1, W 1 3, RSP [0]]
      (fun t => t.fskPh == ⟨false, false, 0, 0, 0, 3, 3, 0x0F, 3⟩ && t.state == .txRunning && t.timer == .armed 3000) =
    true := by decide
/-- D5. -/
theorem test_send_lora :
    frameShows [0x07, 2, 0xAA, 0xBB] [0x81, 0, 0x81]
      { ready with modem := .lora, lora := { ready.lora with txTimeout := 4000 } }
      [W 0x22 2, W 0x0E 0, W 0x0D 0, R 1 0x81, WF [0xAA, 0xBB], W 0x11 0xF7, R 0x40 0, W 0x40 0x40, .timerStart 4000,
        R 1 0x81, W 1 0x83, RSP [0]]
      (fun t => t.loraPh.size == 2 && t.dataBuf == [(0, 0xAA), (1, 0xBB)]) = true := by decide
/-- D8. -/
theorem test_receive_fsk :
    frameShows [0x08] [0, 0x30, 0x8F, 1] { ready with dataBuf := [(0, 9), (254, 9)] }
      [R 0x40 0, W 0x40 8, R 0x41 0x30, W 0x41 0xF1, W 0x0D 0x1E, R 0x35 0x8F, R 1 1, W 1 5, RSP [0]]
      (fun t => t.fskPh.fifoThresh == 15 && t.dataBuf == [] && t.state == .rxRunning) = true := by decide
/-- D9 and D10. -/
theorem test_receive_lora :
    frameShows [0x08] [0x40, 0x81] { wiredC with modem := .lora, state := .txRunning, timer := .armed 3000 }
      [W 0x11 0x1F, R 0x40 0x40, W 0x40 0, W 0x0F 0, W 0x0D 0, .gpioSet .antSwitch false, R 1 0x81, W 1 0x86, RSP [0]]
      (fun t => t.state == .rxRunning && t.timer == .armed 3000) = true := by decide
/-- D11. -/
theorem test_start_cad_fsk :
    frameShows [0x09] [] (busy .fsk .txRunning) [RSP [0]] (fun t => t.state == .txRunning) = true := by decide
/-- D12. -/
theorem test_start_cad_lora :
    frameShows [0x09] [3, 0x81] { wiredB with modem := .lora }
      [W 0x11 0xFA, R 0x40 3, W 0x40 0, .gpioSet .txctl false, .gpioSet .rxctl true, R 1 0x81, W 1 0x87, RSP [0]]
      (fun t => t.state == .cad) = true := by decide
/-- F row 26. -/
theorem test_continuous_wave :
    frameShows [0x0A, 0xA0, 0x27, 0xBE, 0x33, 0x0E, 5, 0] [0, 0x0F, 0x84, 0x40, 1] ready
      [W 6 0xD9, W 7 0x06, W 8 0x66, R 1 0, R 9 0x0F, R 0x5A 0x84, W 9 0x0F, W 0x5A 0x84, R 0x31 0x40, W 0x31 0,
        W 0x40 0xF0, W 0x41 0xA0, .timerStart 5000, R 1 1, W 1 3, RSP [0]]
      (fun t => t.state == .txRunning && t.timer == .armed 5000) = true := by decide
/-- F row 13. -/
theorem test_max_payload_lora :
    frameShows [0x0B, 1, 0x40] [0x80] ready [R 1 0x80, W 0x23 0x40, RSP [0]] any = true := by decide
/-- F row 15. -/
theorem test_max_payload_fsk_fixed :
    frameShows [0x0B, 0, 0x40] [0] { ready with fsk := { ready.fsk with fixLen := true } } [R 1 0, RSP [0]] any = true := by
  decide
/-- F row 16. -/
theorem test_public_network :
    frameShows [0x0C, 1] [0x80] ready [R 1 0x80, W 0x39 0x34, RSP [0]] (fun t => t.lora.publicNetwork) = true := by decide
/-- F row 17. -/
theorem test_private_network :
    frameShows [0x0C, 0] [1, 1, 0] (busy .fsk .rxRunning)
      [R 1 1, .timerCancel, R 1 1, W 1 0, R 1 0, W 1 0x80, W 0x40 0, W 0x41 0, W 0x39 0x12, RSP [0]]
      (fun t => t.modem == .lora && t.state == .idle) = true := by decide
/-- F row 23. -/
theorem test_carrier_sense_busy :
    frameShows [0x0D, 1, 0xA0, 0x27, 0xBE, 0x33, 0xA6, 0xFF, 5, 0, 0, 0] [0x80, 0x80, 0x20, 0x28, 0x40, 0x85]
      { ready with draws := [3] }
      [R 1 0x80, W 6 0xD9, W 7 0x06, W 8 0x66, R 1 0x80, W 1 0x85, .wait 1, R 0x1B 0x20, .wait 1, R 0x1B 0x28, .wait 1,
        R 0x1B 0x40, .timerCancel, R 1 0x85, W 1 0x80, RSP [0, 0]] any = true := by decide
/-- F row 24: no poll; the scripted draw is bounded. -/
theorem test_carrier_sense_no_time :
    frameShows [0x0D, 1, 0xA0, 0x27, 0xBE, 0x33, 0xA6, 0xFF, 0, 0, 0, 0] [0x80, 0x80, 0x85] { ready with draws := [3] }
      [R 1 0x80, W 6 0xD9, W 7 0x06, W 8 0x66, R 1 0x80, W 1 0x85, .wait 1, .timerCancel, R 1 0x85, W 1 0x80, RSP [0, 1]]
      any = true := by decide
/-- S3. -/
theorem test_time_on_air_fsk :
    frameShows [0x0E, 0, 0x14] [0x92, 0x90]
      { ready with fsk := { ready.fsk with preambleLen := 5, datarate := 4800, crcOn := true } }
      [R 0x27 0x92, R 0x30 0x90, RSP [0, 0x32, 0, 0, 0]] any = true := by decide
/-- S4. -/
theorem test_time_on_air_lora :
    frameShows [0x0E, 1, 0x40] []
      { ready with lora := { ready.lora with bandwidth := 125000, datarate := 7, coderate := 1, preambleLen := 8,
                                             crcOn := true } }
      [RSP [0, 0x77, 0, 0, 0]] any = true := by decide
/-- F row 22: the readings 0 and 4 are odd. -/
theorem test_random :
    frameShows [0x0F] ([0x80, 0x80, 1, 0, 0, 0, 1] ++ List.replicate 27 2 ++ [0x85]) ready
      ([R 1 0x80, W 0x11 0xFF, R 1 0x80, W 1 0x85]
        ++ ([1, 0, 0, 0, 1] ++ List.replicate 27 2).flatMap (fun v => [.wait 1, R 0x2C v])
        ++ [.timerCancel, R 1 0x85, W 1 0x80, RSP [0, 0x11, 0, 0, 0]]) any = true := by decide
/-- F row 21. -/
theorem test_check_frequency :
    frameShows [0x10, 0xFF, 0xFF, 0xFF, 0xFF] [] ready [RSP [0, 1]] any = true := by decide
/-- F row 27, and R230's limit. -/
theorem test_lock :
    frameShows [0x11] [] { ready with lock := 1 } [RSP [0]] (fun t => t.lock == 2) = true ∧
    frameShows [0x11] [] { ready with lock := 255 } [RSP [2]] (fun t => t.lock == 255) = true := by decide
/-- F row 27. -/
theorem test_unlock :
    frameShows [0x12] [] { ready with lock := 2 } [RSP [0]] (fun t => t.lock == 1) = true ∧
    frameShows [0x12] [] ready [RSP [2]] (fun t => t.lock == 0) = true := by decide

/-! ### Handlers (95, group H, S7, S8) -/

/-- H4. -/
theorem test_dio0_fsk_packet :
    execShows .dio0Irq [2, 2, 0xAB, 0xCD, 0x50, 0xFF, 0xFE, 0x20]
      { busy .fsk .rxRunning with fsk := { ready.fsk with crcOn := true } }
      [R 0x3F 2, RF [2], RF [0xAB, 0xCD], R 0x11 0x50, R 0x1B 0xFF, R 0x1C 0xFE, R 0x0C 0x20, .timerCancel,
        CB [2, 2, 0, 0xD8, 0xFF, 0, 0xAB, 0xCD]]
      (fun t => t.state == .idle && t.fskPh == ⟨false, false, -40, -2, 1, 0, 0, 0, 0⟩) = true := by decide
/-- H11. -/
theorem test_dio0_lora_packet :
    execShows .dio0Irq [0x10, 0xF4, 0x30, 2, 0, 0x11, 0x22] (busy .lora .rxRunning)
      [W 0x12 0x40, R 0x12 0x10, R 0x19 0xF4, R 0x1A 0x30, R 0x13 2, R 0x10 0, W 0x0D 0, RF [0x11, 0x22], .timerCancel,
        CB [2, 2, 0, 0xA2, 0xFF, 0xFD, 0x11, 0x22]]
      (fun t => t.state == .idle && t.loraPh == ⟨-3, -94, 2⟩) = true := by decide
/-- H17, and S7: a declared length over the buffer. -/
theorem test_dio1_receive :
    execShows .dio1Irq [0x28, 0, 1, 2] { busy .fsk .rxRunning with fskPh := { ready.fskPh with fifoThresh := 3 } }
      [RF [0x28], RF [0, 1, 2]] (fun t => t.fskPh.size == 40 && t.fskPh.nbBytes == 3 && t.dataBuf == [(1, 1), (2, 2)]) =
    true ∧
    execShows .dio1Irq [0xC8] { under { defaultConfig with maxDataBufferSize := 64 } with
        state := .rxRunning, fskPh := { ready.fskPh with fifoThresh := 15 } }
      [RF [0xC8], W 0x3E 0x0B, W 0x3F 0x10, .timerCancel, CB [4]] (fun t => t.dataBuf == [] && t.state == .idle) = true := by
  decide
/-- H20, on a short chunk. -/
theorem test_dio1_refill :
    execShows .dio1Irq [] { busy .fsk .txRunning with
        dataBuf := [(2, 7), (4, 9)], fskPh := { ready.fskPh with size := 5, nbBytes := 2, chunkSize := 32 } }
      [WF [7, 0, 9]] (fun t => t.fskPh.nbBytes == 5) = true := by decide
/-- H24. -/
theorem test_dio2_fsk :
    execShows .dio2Irq [0x1E] { busy .fsk .rxRunning with fsk := { ready.fsk with rxContinuous := true } }
      [W 0x3E 0x0B, W 0x3F 0x10, R 0x0D 0x1E, W 0x0D 0x5E, CB [3]] (fun t => t.state == .rxRunning) = true := by decide
/-- H26. -/
theorem test_dio2_lora :
    execShows .dio2Irq [0x85] { busy .lora .txRunning with lora := { ready.lora with freqHopOn := true } }
      [W 0x12 2, R 0x1C 0x85, CB [5, 5]] (fun t => t.state == .txRunning) = true := by decide
/-- H28. -/
theorem test_dio3_detected :
    execShows .dio3Irq [5] (busy .lora .cad) [R 0x12 5, W 0x12 5, .timerCancel, CB [6, 1]]
      (fun t => t.state == .idle) = true := by decide
/-- H30. -/
theorem test_dio3_stale :
    execShows .dio3Irq [4] (busy .lora .rxRunning) [R 0x12 4, W 0x12 4, CB [6, 0]]
      (fun t => t.state == .rxRunning) = true := by decide
/-- H32. -/
theorem test_dio4 :
    execShows .dio4Irq [] (busy .fsk .idle) [] (fun t => t.fskPh.preambleDetected) = true := by decide
/-- H33. -/
theorem test_dio4_lora :
    execShows .dio4Irq [] (busy .lora .idle) [] (fun t => !t.fskPh.preambleDetected) = true := by decide
/-- H34. -/
theorem test_dio5 : execShows .dio5Irq [] (busy .lora .txRunning) [] any = true := by decide
/-- S8. -/
theorem test_timeout_recovery :
    execShows .timeoutIrq [0x83, 0x80, 0x80, 0x80, 0, 0, 0]
      { busy .lora .txRunning with timer := .armed 3000, lora := { ready.lora with publicNetwork := true } }
      [.timerCancel, R 1 0x83, W 1 0x80, R 1 0x80, .timerCancel, R 1 0x80, W 1 0x80, R 1 0x80, W 1 0, W 0x40 0,
        W 0x41 0x30, R 1 0, .timerCancel, R 1 0, W 1 0, R 1 0, W 1 0x80, W 0x40 0, W 0x41 0, W 0x39 0x34, CB [1]]
      (fun t => t.state == .idle && t.timer == .disarmed && t.modem == .lora) = true := by decide
/-- H36. -/
theorem test_timeout_elsewhere :
    execShows .timeoutIrq [] { busy .lora .cad with timer := .armed 7 } [] (fun t => t.timer == .armed 7) = true := by decide

/-! ### Bus primitives and micro-operations (95, groups A, B, C, L) -/

theorem test_write_register : execShows (.writeRegister 0x7F 0) [] ready [W 0x7F 0] any = true := by decide
theorem test_write_registers :
    execShows (.writeRegisters 6 [0xD9, 6, 0x66]) [] ready [.busWrite 6 [0xD9, 6, 0x66]] any = true ∧
    execShows (.writeRegisters 6 []) [] ready [] any = true := by decide
theorem test_read_register :
    execShows (.readRegister 1) [0x80] ready [R 1 0x80] (fun t => t.ret == .bytes [0x80]) = true := by decide
theorem test_read_registers :
    execShows (.readRegisters 0x1B 2) [0xFF, 0xFE] ready [.busRead 0x1B [0xFF, 0xFE]]
      (fun t => t.ret == .bytes [0xFF, 0xFE]) = true := by decide
theorem test_write_fifo :
    execShows (.writeFifo [3]) [] ready [WF [3]] any = true ∧ execShows (.writeFifo []) [] ready [] any = true := by decide
theorem test_read_fifo :
    execShows (.readFifo 2) [0xAB, 0xCD] ready [RF [0xAB, 0xCD]] (fun t => t.ret == .bytes [0xAB, 0xCD]) = true ∧
    execShows (.readFifo 0) [] ready [] (fun t => t.ret == .bytes []) = true := by decide
/-- C row 2. -/
theorem test_mode_scheme_a :
    execShows (.setOperationMode .transmitter) [0x8F, 0x81] wiredA
      [R 9 0x8F, .gpioSet .rfSwitchCtl1 true, .gpioSet .rfSwitchCtl2 false, R 1 0x81, W 1 0x83] any = true := by decide
/-- C row 7. -/
theorem test_mode_keeps_bits :
    execShows (.setOperationMode .receiver) [0x7A] ready [R 1 0x7A, W 1 0x7D] (fun t => t.state == .idle) = true := by decide
/-- C row 3's pins. -/
theorem test_antenna_rfo :
    execShows (.setAntennaSwitch .transmitter) [0x0F] wiredA
      [R 9 0x0F, .gpioSet .rfSwitchCtl1 false, .gpioSet .rfSwitchCtl2 true] (fun t => t.gpio.rfSwitchCtl2) = true := by decide
/-- R144: a board of scheme C whose switch is wired the other way round. -/
theorem test_antenna_override :
    execShows (.setAntennaSwitch .transmitter) [] (under { defaultConfig with
        wiring := ⟨false, false, false, false, true, false, false, { defaultLevels with cTx := false, cRx := true }⟩ })
      [.gpioSet .antSwitch false] any = true := by decide
/-- C row 4's pins. -/
theorem test_low_power :
    execShows .antennaLowPower [] wiredA
      [.gpioSet .pwrAmpCtl false, .gpioSet .rfSwitchCtl1 false, .gpioSet .rfSwitchCtl2 false] any = true := by decide
/-- C row 11. -/
theorem test_set_modem_switch :
    execShows (.setModem .fsk) [0x85, 0x85, 0x80] (busy .lora .rxRunning)
      [R 1 0x85, .timerCancel, R 1 0x85, W 1 0x80, R 1 0x80, W 1 0, W 0x40 0, W 0x41 0x30]
      (fun t => t.modem == .fsk && t.state == .idle) = true := by decide
/-- C row 10. -/
theorem test_set_modem_repair :
    execShows (.setModem .fsk) [1] (busy .lora .rxRunning) [R 1 1]
      (fun t => t.modem == .fsk && t.state == .rxRunning) = true := by decide
/-- C row 12. -/
theorem test_radio_reset :
    execShows .radioReset [] ready [.rstLow, .wait 2, .rstRelease, .wait 6] (fun t => t.rst == .released) = true := by decide
/-- The tail of D5. -/
theorem test_transmit :
    execShows (.transmit 4000) [0, 0x81] { ready with modem := .lora }
      [W 0x11 0xF7, R 0x40 0, W 0x40 0x40, .timerStart 4000, R 1 0x81, W 1 0x83]
      (fun t => t.state == .txRunning && t.timer == .armed 4000) = true := by decide
/-- Group L. -/
theorem test_load_defaults :
    execShows .loadDefaultRegisters [0, 0, 0, 0]
      (under { defaultConfig with chipSeq := { defaultConfig.chipSeq with
        initRegs := [⟨.fsk, 0x0C, 0x23⟩, ⟨.lora, 0x23, 0x40⟩] } })
      [R 1 0, W 0x0C 0x23, R 1 0, .timerCancel, R 1 0, W 1 0, R 1 0, W 1 0x80, W 0x40 0, W 0x41 0, W 0x23 0x40]
      (fun t => t.modem == .lora && t.state == .idle) = true := by decide
/-- S6, on the bus. -/
theorem test_set_power_boost :
    execShows (.setRfTxPower 25) [0x0F, 0x84] (under { defaultConfig with paSelect := .paBoost })
      [R 9 0x0F, R 0x5A 0x84, W 9 0x8F, W 0x5A 0x87] any = true := by decide
theorem test_set_power_rfo :
    execShows (.setRfTxPower (-10)) [0x8F, 0x87] ready [R 9 0x8F, R 0x5A 0x87, W 9 0, W 0x5A 0x87] any = true := by decide
/-- S5. -/
theorem test_bandwidth_code :
    bandwidthCode defaultBwTable 125000 = some 0x02 ∧ bandwidthCode defaultBwTable 124999 = some 0x0A ∧
    bandwidthCode defaultBwTable 299999 = some 0x01 ∧ bandwidthCode defaultBwTable 300000 = none ∧
    bandwidthCode defaultBwTable 2600 = some 0x17 ∧ bandwidthCode defaultBwTable 2599 = none := by decide
theorem test_bandwidth_returned :
    execShows (.fskBandwidthCode 300001) [] ready [] (fun t => t.ret == .invalidBandwidth 300001) = true := by decide
/-- Group B, `TX_POWER_ENCODE`: the edges of its table. -/
theorem test_tx_power_boost :
    txPowerEncode 20 .paBoost = ⟨20, true, 15⟩ ∧ txPowerEncode 18 .paBoost = ⟨18, true, 13⟩ ∧
    txPowerEncode 17 .paBoost = ⟨17, false, 15⟩ ∧ txPowerEncode 1 .paBoost = ⟨2, false, 0⟩ := by decide
theorem test_tx_power_rfo :
    txPowerEncode 127 .rfo = ⟨14, false, 15⟩ ∧ txPowerEncode 0 .rfo = ⟨0, false, 1⟩ ∧
    txPowerEncode (-10) .rfo = ⟨-1, false, 0⟩ := by decide
/-- Group B, `FSK_TIME_ON_AIR`: rounding down, up, and the tie. -/
theorem test_fsk_time_on_air :
    fskTimeOnAir 5 3 0 255 2 50000 = some 42 ∧ fskTimeOnAir 5 3 1 20 2 4800 = some 52 ∧
    fskTimeOnAir 0 1 0 0 0 16000 = some 1 ∧ fskTimeOnAir 1 1 1 1 1 0 = none := by decide
/-- Group B, `LORA_TIME_ON_AIR`: the implicit header, the clamped `tmp`, an exact total, no result. -/
theorem test_lora_time_on_air :
    loraTimeOnAir 500000 6 1 8 10 true true false = some 6 ∧ loraTimeOnAir 125000 12 1 8 0 false true true = some 664 ∧
    loraTimeOnAir 125000 8 1 4 10 true false false = some 64 ∧ loraTimeOnAir 125000 2 1 8 0 false true true = none := by
  decide
/-- H7's tail. -/
theorem test_fsk_rx_abort :
    execShows .fskRxAbort [0x1E]
      { busy .fsk .rxRunning with fsk := { ready.fsk with rxContinuous := true }, fskPh := { ready.fskPh with size := 9 } }
      [W 0x3E 0x0B, W 0x3F 0x10, R 0x0D 0x1E, W 0x0D 0x5E, CB [4]]
      (fun t => t.state == .rxRunning && t.fskPh.size == 0) = true := by decide
/-- Group B: `LoraBwHz`, `Ldro`, `RxSingleTimeout`. -/
theorem test_operand_forms :
    loraBwHz 2 = some 500000 ∧ loraBwHz 3 = none ∧ ldroOf 0 12 = true ∧ ldroOf 125000 10 = false ∧
    ldroOf 250000 11 = false ∧ rxSingleTimeout 5 4800 = 8 ∧ rxSingleTimeout 65535 1 = 524280000 := by decide
/-- Group H: `Snr` and `LoraRssi` alone. -/
theorem test_snr_and_rssi :
    snrOf .w8 0xFD = 0 ∧ snrOf .w8 0xFC = -1 ∧ snrOf .w8 0x80 = -32 ∧ snrOf .w4 0x0C = -1 ∧ snrOf .w4 0xF7 = 1 ∧
    loraRssi (-139) 0 (-32) = -171 ∧ loraRssi (-139) 255 31 = 116 ∧ fskRssi 0xFF = -127 := by decide

/-! ### The agents' steps (95, group G) -/

/-- G1. -/
theorem test_edge_unarmed :
    nextIs (step { State.reset with inputs := [.edge 0] }) [] (fun t => t.pending == 0) = true := by decide
/-- G2: coalescing. -/
theorem test_edge_coalesces :
    nextIs (step { ready with pending := 2, inputs := [.edge 1] }) [] (fun t => t.pending == 2) = true := by decide
/-- G3: the take clears what it read. -/
theorem test_wake :
    nextIs (step { ready with pending := 0x41, lock := 1, inputs := [.wake] }) []
      (fun t => t.pending == 0 && t.worker == .holding 0x41) = true := by decide
/-- G4: DIO0 before the timeout, one callback. -/
theorem test_batch_order :
    nextIs (step { busy .lora .txRunning with worker := .holding 0x41, inputs := [.run] })
      [.timerCancel, W 0x12 8, CB [0]] (fun t => t.worker == .waiting && t.state == .idle) = true := by decide
/-- G7: a lock defers the batch. -/
theorem test_lock_defers :
    nextIs (step { busy .lora .txRunning with worker := .holding 1, lock := 1, inputs := [.run] }) []
      (fun t => t.worker == .holding 1 && t.state == .txRunning) = true := by decide
/-- G10: the direct model. -/
theorem test_dispatch :
    nextIs (step { under { defaultConfig with workerPresent := false } with
        modem := .lora, state := .txRunning, answers := [4], pending := 9, inputs := [.dispatch] })
      [.timerCancel, W 0x12 8, CB [0], R 0x12 4, W 0x12 4, CB [6, 0]]
      (fun t => t.worker == .waiting && t.pending == 0) = true := by decide
/-- G9: `Armed(0)` may expire at once. -/
theorem test_expire :
    nextIs (step { ready with timer := .armed 0, inputs := [.expire] }) []
      (fun t => t.pending == 0x40 && t.timer == .disarmed) = true := by decide

/-! ### Witnesses: values that meet the hypotheses of each statement -/

/-- Continuous FSK reception with a packet that fills the buffer, its bytes all moved. -/
def fskFull : State := { busy .fsk .rxRunning with
  timer := .armed 0, dataBuf := [(0, 1), (254, 7)]
  fsk := { ready.fsk with rxContinuous := true }
  fskPh := ⟨true, false, -127, 0, 7, 255, 255, 0x3F, 64⟩ }

/-- FSK reception with no length known; the chip declares the largest packet. -/
def fskFresh : State := { busy .fsk .rxRunning with answers := [255], fskPh := { ready.fskPh with fifoThresh := 0x3F } }

/-- An FSK transmission with one byte left. -/
def fskSending : State := { busy .fsk .txRunning with
  timer := .armed 0, fskPh := { ready.fskPh with size := 255, nbBytes := 254, chunkSize := 64 } }

/-- A LoRa transmission whose expiry is latched. -/
def loraExpired : State := { busy .lora .txRunning with pending := 0x40 }

/-- A LoRa transmission whose expiry is in the held batch. -/
def loraHeld : State := { busy .lora .txRunning with worker := .holding 0x41 }

/-- The direct model, with two events latched and the timer armed. -/
def direct : State := { under { defaultConfig with workerPresent := false } with pending := 0x41, timer := .armed 5 }

theorem inv_reset : Inv State.reset := by constructor <;> decide
theorem inv_ready : Inv ready := by constructor <;> decide
theorem inv_fskFull : Inv fskFull := by constructor <;> decide
theorem inv_fskFresh : Inv fskFresh := by constructor <;> decide
theorem inv_fskSending : Inv fskSending := by constructor <;> decide
theorem inv_loraHeld : Inv loraHeld := by constructor <;> decide
theorem inv_direct : Inv { direct with state := .cad } := by constructor <;> decide

theorem witness_DecodeEncode :
    (Instr.send 0 []).wellFormed = true ∧
    (Instr.writeRegisters 1 [0, 0]).wellFormed = true ∧ (Instr.readRegisters 0x7F 2).wellFormed = true ∧
    (Instr.writeFifo [0]).wellFormed = true ∧ (Instr.readFifo 1).wellFormed = true ∧
    (Instr.setAntennaSwitch .standby).wellFormed = true ∧
    (Instr.fskTimeOnAir (2 ^ 32 - 1) 0 0 0 0 (2 ^ 32 - 1)).wellFormed = true ∧
    (Instr.loraTimeOnAir 0 0 0 0 (2 ^ 32 - 1) false true true).wellFormed = true := by decide
/-- A payload of every size, 255 among them. -/
theorem witness_DecodeEncode_sizes (n : Byte) : (Instr.send n (List.replicate n.toNat 1)).wellFormed = true := by
  simp [Instr.wellFormed]
theorem witness_CommandFramesDecodeApart :
    decodeCommand [0x0C, 1] = .ok (.setPublicNetwork true) ∧ decodeCommand [0x0C, 2] = .ok (.setPublicNetwork true) ∧
    decodeCommand [0x0C, 0] = .ok (.setPublicNetwork false) := by decide
theorem witness_RefusedFrames :
    refusedFrame 1 [] = true ∧ refusedFrame 255 [0x13] = true ∧ refusedFrame 255 [2, 0] = true ∧
    refusedFrame 255 [0x0E, 2, 0] = true ∧ refusedFrame 1 [7, 2, 0, 0] = true ∧ refusedFrame 1 [7, 1, 0] = false ∧
    refusedFrame 255 [0x0E, 1, 0] = false ∧ refusedFrame 255 [0x12] = false := by decide
theorem witness_BusAliases :
    (Instr.writeRegisters 0 [5]).format = .bus ∧ encode (.writeRegisters 0 [5]) ≠ [] ∧
    (Instr.readRegisters 0 1).format = .bus ∧ encode (.readRegisters 0 1) ≠ [] ∧
    (Instr.readRegisters 0x7F 2).format = .bus ∧ encode (.readRegisters 0x7F 2) ≠ [] := by decide
theorem witness_StepRunsInstruction :
    decodeCommand [0x03] = .ok .sleep ∧ decodeBus [0xFF, 0x00] = .ok (.writeRegister 0x7F 0) ∧
    decodeMicro [0x82] = .ok .radioReset := by decide
theorem witness_StepRunsInstruction_worker :
    decodeEvent [0x40] = .ok .timeoutIrq ∧ ready.cfg.workerPresent = true ∧ ready.lock = 0 ∧
    ∃ t, exec .timeoutIrq { ready with worker := .holding ((u8At [0x40] 0).setWidth 7) } = .next t :=
  ⟨by decide, by decide, by decide, _, rfl⟩
theorem witness_StepRunsInstruction_direct :
    decodeEvent [0x01] = .ok .dio0Irq ∧ direct.cfg.workerPresent = false ∧ direct.lock = 0 ∧
    ∃ t, exec .dio0Irq { direct with pending := 0 } = .next t :=
  ⟨by decide, by decide, by decide, _, rfl⟩
theorem witness_DisabledSteps :
    ready.timer = .disarmed ∧ direct.cfg.workerPresent = false ∧ loraHeld.worker ≠ .waiting ∧ ready.pending = 0 ∧
    ready.worker = .waiting ∧ { loraHeld with lock := 1 }.lock ≠ 0 ∧ ready.cfg.workerPresent = true := by decide
theorem witness_TimerExpiry : fskSending.timer = .armed 0 := by decide
theorem witness_WorkerTake :
    loraExpired.cfg.workerPresent = true ∧ loraExpired.worker = .waiting ∧ loraExpired.pending ≠ 0 := by decide
theorem witness_WorkerBatch :
    loraHeld.cfg.workerPresent = true ∧ loraHeld.worker = .holding 0x41 ∧ loraHeld.lock = 0 := by decide
theorem witness_DirectDispatch :
    direct.cfg.workerPresent = false ∧ direct.pending ≠ 0 ∧ direct.lock = 0 ∧ direct.timer = .armed 5 := by decide
theorem witness_NoEventLost_pending :
    ∃ t, step { direct with inputs := [.frame [0x03]] } = .next t ∧ direct.pending.getLsbD 0 = true ∧
      direct.pending.getLsbD 6 = true := ⟨_, rfl, by decide, by decide⟩
theorem witness_NoEventLost_held :
    ∃ t, step { loraHeld with inputs := [.edge 0] } = .next t ∧ loraHeld.worker = .holding 0x41 ∧
      (0x41 : EventVec).getLsbD 6 = true := ⟨_, rfl, by decide, by decide⟩
theorem witness_CallbackSetUnread :
    (∀ k, Instr.dio0Irq ≠ .initRadio k) ∧ ∃ t, exec .dio0Irq fskSending = .next t :=
  ⟨fun _ h => (nomatch h), _, rfl⟩
theorem witness_ResetIsGood :
    Config.wellFormed { defaultConfig with
      maxDataBufferSize := 1, resetLowMs := 2, resetWaitMs := 6, pollMs := 1, fifoBurst := 1, fskSingleWriteMax := 0
      fskBwTable := [⟨0, 0⟩, ⟨1, 0⟩] } = true := by decide
theorem witness_StepKeepsInv :
    Inv { fskFull with inputs := [.edge 0] } ∧ ∃ t, step { fskFull with inputs := [.edge 0] } = .next t :=
  ⟨by constructor <;> decide, _, rfl⟩
theorem witness_BlockNeverStops :
    Inv { fskSending with inputs := [.expire] } ∧ Stimulus.expire.isAgent = true :=
  ⟨by constructor <;> decide, by decide⟩
theorem witness_TxStaysWatched_armed :
    TxWatched fskSending ∧ fskSending.state = .txRunning ∧ ∃ t, step { fskSending with inputs := [.expire] } = .next t :=
  ⟨fun _ => Or.inl (by decide), by decide, _, rfl⟩
theorem witness_TxStaysWatched_latched :
    TxWatched loraExpired ∧ ∃ t, step { loraExpired with inputs := [.wake] } = .next t :=
  ⟨fun _ => Or.inr (Or.inl (by decide)), _, rfl⟩
theorem witness_TxStaysWatched_held :
    TxWatched loraHeld ∧ ∃ t, step { loraHeld with inputs := [.run] } = .next t :=
  ⟨fun _ => Or.inr (Or.inr ⟨0x41, by decide, by decide⟩), _, rfl⟩
theorem witness_IdleCancelsTimer :
    ∃ t, exec .dio0Irq fskSending = .next t ∧ fskSending.state ≠ .idle ∧ t.state = .idle :=
  ⟨_, rfl, by decide, by decide⟩
theorem witness_StateWriters :
    (Instr.readFifo 1).format = .bus ∧ (∃ t, exec (.readFifo 1) fskSending = .next t) ∧
    (∃ t, exec .startCad fskSending = .next t) ∧ fskSending.modem = .fsk ∧
    (∃ t, exec (.setOperationMode .sleep) fskSending = .next t) := ⟨by decide, ⟨_, rfl⟩, ⟨_, rfl⟩, by decide, _, rfl⟩
theorem witness_OptionalLines :
    ∃ t, exec .antennaLowPower { wiredA with gpio := { wiredA.gpio with pwrAmpCtl := true } } = .next t ∧
      t.gpio.pwrAmpCtl = false := ⟨_, rfl, by decide⟩
theorem witness_FieldOwners :
    ∃ t, exec .getStatus fskFull = .next t ∧ fskFull.rst = .released ∧ (∀ c, Instr.getStatus ≠ .initRadio c) ∧
      Instr.getStatus ≠ .lock ∧ Instr.getStatus ≠ .unlock ∧ (∀ f, Instr.getStatus ≠ .setChannel f) ∧
      (∀ m f r d, Instr.getStatus ≠ .performCarrierSense m f r d) ∧
      (∀ f p d, Instr.getStatus ≠ .setTxContinuousWave f p d) ∧ (∀ n b, Instr.getStatus ≠ .send n b) ∧
      Instr.getStatus ≠ .receive ∧ Instr.getStatus ≠ .dio0Irq ∧ Instr.getStatus ≠ .dio1Irq ∧
      (∀ e, Instr.getStatus ≠ .setPublicNetwork e) :=
  ⟨_, rfl, by decide, fun _ h => (nomatch h), by decide, by decide, fun _ h => (nomatch h),
    fun _ _ _ _ h => (nomatch h), fun _ _ _ h => (nomatch h), fun _ _ h => (nomatch h), by decide, by decide, by decide,
    fun _ h => (nomatch h)⟩
theorem witness_RaiseChangesNothing :
    Instr.unlock.format = .command ∧ (∃ t, exec .unlock ready = .next t ∧ t.hist = [RSP [2]]) ∧
    (∃ t, exec .lock ready = .next t ∧ t.hist = [RSP [0]]) := ⟨by decide, ⟨_, rfl, by decide⟩, _, rfl, by decide⟩
theorem witness_LockCount :
    { ready with lock := 254 }.lock.toNat < 255 ∧ { ready with lock := 255 }.lock.toNat = 255 ∧
    0 < { ready with lock := 1 }.lock.toNat ∧ ready.lock.toNat = 0 := by decide
theorem witness_ModeAndPins : OpMode.standby ≠ .sleep ∧ OpMode.transmitter ≠ .sleep := by decide
theorem witness_PinLevels :
    ModeClass.rx ≠ .tx ∧ ModeClass.other ≠ .tx ∧ wiredB.cfg.wiring.levels = defaultLevels ∧
    wiredB.cfg.wiring.connected .antSwitch = false ∧ wiredB.cfg.wiring.connected .txctl = true := by decide
theorem witness_ModemSelection :
    modemOfOpmode defaultRegMap (answer ({ ready with answers := [0, 0, 0, 0x80] }.withModem .lora) 0) = .lora ∧
    modemOfOpmode defaultRegMap (answer ({ ready with answers := [0, 0] }.withModem .fsk) 0) = .fsk := by decide
theorem witness_SetChannel : ready.cfg.chipSeq.channelWrites = .formula := by decide
theorem witness_SetRxConfig :
    (bandwidthCode ready.cfg.fskBwTable 2600).isSome = true ∧ (bandwidthCode ready.cfg.fskBwTable 299999).isSome = true ∧
    (bandwidthCode ready.cfg.fskBwTable 2599).isSome = false ∧
    (bandwidthCode ready.cfg.fskBwTable 300000).isSome = false := by decide
theorem witness_BandwidthLookup :
    ready.cfg.wellFormed = true ∧ defaultBwTable.length = 22 ∧
    (defaultBwTable.getD 0 ⟨0, 0⟩).bw ≤ 2600 ∧ 2600 < (defaultBwTable.getD 1 ⟨0, 0⟩).bw ∧
    (defaultBwTable.getD 20 ⟨0, 0⟩).bw ≤ 299999 ∧ 299999 < (defaultBwTable.getD 21 ⟨0, 0⟩).bw ∧
    2599 < (defaultBwTable.getD 0 ⟨0, 0⟩).bw ∧ (defaultBwTable.getD 21 ⟨0, 0⟩).bw ≤ 300000 := by decide
theorem witness_TxPower :
    (17 : Byte).toInt ≤ 17 ∧ (18 : Byte).toInt > 17 ∧ (127 : Byte).toInt > 17 ∧ (0x80 : Byte).toInt ≤ 17 ∧
    ready.cfg.paSelect = .rfo := by decide
theorem witness_AirtimeExact :
    (0 : Nat) < 1 ∧ ((2 : Nat) : Int) ≤ 2 ∧ ((3 : Nat) : Int) > 2 ∧ ((1 : Nat) : Int) > 0 ∧ ((0 : Nat) : Int) ≤ 0 := by decide
/-- The LoRa settings of S4, with a spreading factor. -/
def airtimeState (sf : Word) : State :=
  { ready with lora := { ready.lora with bandwidth := 500000, datarate := sf, coderate := 1, preambleLen := 8 } }
theorem witness_TimeOnAir_fsk :
    ready.fsk.datarate = 0 ∧ { ready with fsk := { ready.fsk with datarate := 1 } }.fsk.datarate ≠ 0 := by decide
theorem witness_TimeOnAir_lora :
    ∃ bw, loraBwHz (airtimeState 7).lora.bandwidth.toNat = some bw ∧
      loraTimeOnAir bw (airtimeState 7).lora.datarate.toNat (airtimeState 7).lora.coderate.toNat
        (airtimeState 7).lora.preambleLen.toNat (0 : Byte).toNat (airtimeState 7).lora.crcOn (airtimeState 7).lora.fixLen
        (airtimeState 7).lora.lowDatarateOptimize = some (6 : Word).toNat := ⟨500000, by decide, by decide⟩
theorem witness_TimeOnAir_lora_refused :
    ¬∃ (ms : Word) (bw : Nat), loraBwHz ready.lora.bandwidth.toNat = some bw ∧
      loraTimeOnAir bw ready.lora.datarate.toNat ready.lora.coderate.toNat ready.lora.preambleLen.toNat (0 : Byte).toNat
        ready.lora.crcOn ready.lora.fixLen ready.lora.lowDatarateOptimize = some ms.toNat := by
  rintro ⟨ms, bw, -, h⟩
  simp [loraTimeOnAir, show ready.lora.datarate.toNat = 0 from rfl,
    show ready.lora.lowDatarateOptimize = false from rfl, bit] at h
theorem witness_SendFsk :
    ready.modem = .fsk ∧ ready.cfg.wellFormed = true ∧ Memory.wf ready.dataBuf = true ∧
    ([] : List Byte).length = (0 : Byte).toNat ∧ (255 : Byte).toNat ≤ ready.cfg.maxDataBufferSize := by decide
/-- A payload for every size, the edges 64 and 65 of the first chunk among them. -/
theorem witness_SendFsk_sizes (n : Byte) : (List.replicate n.toNat (1 : Byte)).length = n.toNat := List.length_replicate
theorem witness_SendLora :
    (busy .lora .idle).modem = .lora ∧ Memory.wf (busy .lora .idle).dataBuf = true ∧
    ([] : List Byte).length = (0 : Byte).toNat ∧
    (255 : Byte).toNat ≤ (busy .lora .idle).cfg.maxDataBufferSize := by decide
theorem witness_Receive : ready.modem = .fsk ∧ (busy .lora .txRunning).modem = .lora := by decide
theorem witness_StartCad : ready.modem = .fsk ∧ (busy .lora .txRunning).modem = .lora := by decide
theorem witness_CarrierSense : { ready with draws := [7] }.draws = 7 :: [] ∧ 0 < ready.cfg.pollMs := by decide
theorem witness_ContinuousWave :
    (65535 : Half).toNat * { defaultConfig with cwDurationUnitMs := 65537 }.cwDurationUnitMs < 2 ^ 32 := by decide
theorem witness_HandlerTable :
    Inv fskFull ∧ fskFull.cbSet = 0x7F ∧ Inv loraHeld ∧ loraHeld.cbSet = 0x7F ∧ Inv ready ∧ ready.cbSet = 0x7F :=
  ⟨inv_fskFull, by decide, inv_loraHeld, by decide, inv_ready, by decide⟩
theorem witness_FskPacketDelivered_known :
    Inv { fskFull with answers := [2], fsk := { fskFull.fsk with crcOn := true } } ∧ lengthUnknown fskFull = false ∧
    flagSet (answer { fskFull with answers := [2] } 0) fskFull.cfg.regmap.irq2CrcOk = true ∧
    fskFull.fskPh.size.toNat ≤ fskFull.cfg.maxDataBufferSize ∧ fskFull.state = .rxRunning ∧ fskFull.modem = .fsk :=
  ⟨by constructor <;> decide, by decide, by decide, by decide, by decide, by decide⟩
theorem witness_FskPacketDelivered_fresh :
    Inv fskFresh ∧ fskFresh.state = .rxRunning ∧ fskFresh.modem = .fsk ∧ fskFresh.fsk.crcOn = false ∧
    lengthUnknown fskFresh = true ∧ (answer fskFresh 0).toNat ≤ fskFresh.cfg.maxDataBufferSize :=
  ⟨inv_fskFresh, by decide, by decide, by decide, by decide, by decide⟩
/-- `fskFresh` with a buffer one byte too small for what the chip declares, and these answers. -/
def fskOver (answers : List Byte) : State :=
  { fskFresh with cfg := { defaultConfig with maxDataBufferSize := 254 }, answers := answers }
theorem witness_FskPacketAbandoned :
    fskFresh.state = .rxRunning ∧ fskFresh.modem = .fsk ∧
    flagSet (answer { fskFresh with answers := [0] } 0) fskFresh.cfg.regmap.irq2CrcOk = false ∧
    lengthUnknown (fskOver [255]) = true ∧ (fskOver [255]).fsk.crcOn = false ∧
    (answer (fskOver [255]) 0).toNat > (fskOver [255]).cfg.maxDataBufferSize ∧
    flagSet (answer (fskOver [2, 255]) 0) (fskOver [2, 255]).cfg.regmap.irq2CrcOk = true ∧
    (answer (fskOver [2, 255]) 1).toNat > (fskOver [2, 255]).cfg.maxDataBufferSize := by decide
/-- LoRa reception against these answers. -/
def loraRx (answers : List Byte) : State := { busy .lora .rxRunning with answers := answers }
theorem witness_LoraPacket :
    (loraRx []).state = .rxRunning ∧ (loraRx []).modem = .lora ∧ Memory.wf (loraRx []).dataBuf = true ∧
    flagSet (answer (loraRx [0x30]) 0) defaultRegMap.lrPayloadCrcError = true ∧
    flagSet (answer (loraRx [0x10, 0, 0, 255]) 0) defaultRegMap.lrPayloadCrcError = false ∧
    (answer (loraRx [0x10, 0, 0, 255]) 3).toNat ≤ (loraRx []).cfg.maxDataBufferSize ∧
    (answer (loraRx [0x10, 0, 0, 255]) 3).toNat > (fskOver []).cfg.maxDataBufferSize ∧
    -32000 < (loraRx []).cfg.rssiOffset ∧ (loraRx []).cfg.rssiOffset < 32000 := by decide
theorem witness_FskBursts :
    Inv fskFresh ∧ fskFresh.modem = .fsk ∧ fskFresh.state = .rxRunning ∧
    (answer fskFresh 0).toNat ≤ fskFresh.cfg.maxDataBufferSize ∧
    fskFull.fskPh.size.toNat ≤ fskFull.cfg.maxDataBufferSize ∧
    Inv fskSending ∧ fskSending.modem = .fsk ∧ fskSending.state = .txRunning :=
  ⟨inv_fskFresh, by decide, by decide, by decide, by decide, inv_fskSending, by decide, by decide⟩
theorem witness_TxDoneAndRxTimeout :
    fskSending.state = .txRunning ∧ (loraRx []).state = .rxRunning ∧ (loraRx []).modem = .lora := by decide
theorem witness_OtherLines :
    fskFresh.state = .rxRunning ∧ fskFresh.modem = .fsk ∧ (loraRx []).modem = .lora ∧ (loraRx []).state ≠ .cad ∧
    (busy .lora .cad).state = .cad ∧
    { busy .lora .txRunning with lora := { ready.lora with freqHopOn := true } }.lora.freqHopOn = true := by decide
theorem witness_TimeoutRecovery : fskSending.state = .txRunning ∧ (busy .lora .cad).state ≠ .txRunning := by decide

end Sys2Proof.Tests
end

/-! The pending register, the worker's phase and the schedule are outside every instruction (R8, R253): replacing them
with `State.relatch` commutes with each operation an instruction is made of, and so with `exec`. The lemmas follow the
model's units. Where the operation's closed form (Laws/Ops, Laws/Units) names no replaced field, its lemma rewrites both
sides to that form, and they agree by computation. -/

namespace Sys2Proof.Machine

section Relatch

variable (p : EventVec) (w : Worker) (x : List Stimulus) (s : State)

/-! ### What the replacement leaves unchanged -/

@[simp] theorem State.relatch_cfg : (s.relatch p w x).cfg = s.cfg := rfl
@[simp] theorem State.relatch_state : (s.relatch p w x).state = s.state := rfl
@[simp] theorem State.relatch_modem : (s.relatch p w x).modem = s.modem := rfl
@[simp] theorem State.relatch_fsk : (s.relatch p w x).fsk = s.fsk := rfl
@[simp] theorem State.relatch_lora : (s.relatch p w x).lora = s.lora := rfl
@[simp] theorem State.relatch_fskPh : (s.relatch p w x).fskPh = s.fskPh := rfl
@[simp] theorem State.relatch_loraPh : (s.relatch p w x).loraPh = s.loraPh := rfl
@[simp] theorem State.relatch_lock : (s.relatch p w x).lock = s.lock := rfl

@[simp] theorem memRead_relatch (i n : Nat) : memRead i n (s.relatch p w x) = memRead i n s := rfl
@[simp] theorem inBuffer_relatch (i n : Nat) : inBuffer i n (s.relatch p w x) = inBuffer i n s := rfl
@[simp] theorem configWrites_relatch (c : ConfigSource) (m : ModemKind) :
    configWrites c m (s.relatch p w x) = configWrites c m s := rfl
@[simp] theorem txConfigWrites_relatch (m : ModemKind) :
    txConfigWrites m (s.relatch p w x) = txConfigWrites m s := rfl
@[simp] theorem rxConfigValid_relatch (a : RxConfigArgs) :
    rxConfigValid a (s.relatch p w x) = rxConfigValid a s := rfl
@[simp] theorem receiveMode_relatch : receiveMode (s.relatch p w x) = receiveMode s := rfl
@[simp] theorem packetInBuffer_relatch (n : Nat) : packetInBuffer n (s.relatch p w x) = packetInBuffer n s := rfl
@[simp] theorem bytesLeft_relatch : bytesLeft (s.relatch p w x) = bytesLeft s := rfl

/-! ### Updates, branches and outcomes -/

theorem relatch_withState (v : RadioState) :
    { s.relatch p w x with state := v } = ({ s with state := v } : State).relatch p w x := rfl
theorem relatch_withFskPh (v : FskPacket) :
    { s.relatch p w x with fskPh := v } = ({ s with fskPh := v } : State).relatch p w x := rfl
theorem relatch_withLoraPh (v : LoraPacket) :
    { s.relatch p w x with loraPh := v } = ({ s with loraPh := v } : State).relatch p w x := rfl
theorem relatch_withCbSet (v : EventVec) :
    { s.relatch p w x with cbSet := v } = ({ s with cbSet := v } : State).relatch p w x := rfl

@[simp] theorem relatch_ite (c : Prop) [Decidable c] (a b : State) :
    (if c then a else b).relatch p w x = if c then a.relatch p w x else b.relatch p w x :=
  apply_ite (State.relatch · p w x) c a b

@[simp] theorem mapNext_next (f : State → State) : mapNext f (.next s) = .next (f s) := rfl
@[simp] theorem mapNext_fault (f : State → State) (r : Fault) : mapNext f (.fault r) = .fault r := rfl
@[simp] theorem mapNext_ite (f : State → State) (c : Prop) [Decidable c] (a b : Result) :
    mapNext f (if c then a else b) = if c then mapNext f a else mapNext f b :=
  apply_ite (mapNext f) c a b

variable {s} in
theorem next_relatch {t : State} (h : t = s.relatch p w x) :
    Host.Outcome.next t = mapNext (State.relatch · p w x) (.next s) := congrArg Host.Outcome.next h

variable {s} in
theorem next_respond_relatch {t : State} (l : List Byte) (h : t = s.relatch p w x) :
    Host.Outcome.next (respond l t) = mapNext (State.relatch · p w x) (.next (respond l s)) :=
  congrArg (fun u => Host.Outcome.next (respond l u)) h

/-! ### The shared operations (Machine/Ops, Flags, Calc) -/

@[simp] theorem memWrite_relatch (i : Nat) (v : List Byte) :
    memWrite i v (s.relatch p w x) = (memWrite i v s).relatch p w x := rfl
@[simp] theorem zeroBuffer_relatch : zeroBuffer (s.relatch p w x) = (zeroBuffer s).relatch p w x := rfl
@[simp] theorem clearFskPacketState_relatch :
    clearFskPacketState (s.relatch p w x) = (clearFskPacketState s).relatch p w x := rfl
@[simp] theorem wait_relatch (n : Nat) : wait n (s.relatch p w x) = (wait n s).relatch p w x := rfl
@[simp] theorem respond_relatch (l : List Byte) : respond l (s.relatch p w x) = (respond l s).relatch p w x := rfl
@[simp] theorem raiseError_relatch (e : Status) :
    raiseError e (s.relatch p w x) = (raiseError e s).relatch p w x := rfl
@[simp] theorem timerStart_relatch (ms : Word) :
    timerStart ms (s.relatch p w x) = (timerStart ms s).relatch p w x := rfl
@[simp] theorem timerCancel_relatch : timerCancel (s.relatch p w x) = (timerCancel s).relatch p w x := rfl
@[simp] theorem goIdle_relatch : goIdle (s.relatch p w x) = (goIdle s).relatch p w x := rfl
@[simp] theorem emit_relatch (c : Callback) : emit c (s.relatch p w x) = (emit c s).relatch p w x := by
  rw [emit_eq, emit_eq]; rfl

@[simp] theorem regWrite_relatch (a : Addr) (v : Byte) :
    regWrite a v (s.relatch p w x) = (regWrite a v s).relatch p w x := rfl
@[simp] theorem regRead_relatch (a : Addr) :
    regRead a (s.relatch p w x) = ((regRead a s).1, (regRead a s).2.relatch p w x) := rfl
@[simp] theorem regSet_relatch (a : Addr) (m o : Byte) :
    regSet a m o (s.relatch p w x) = (regSet a m o s).relatch p w x := rfl
@[simp] theorem regWriteBurst_relatch (a : Addr) (l : List Byte) :
    regWriteBurst a l (s.relatch p w x) = (regWriteBurst a l s).relatch p w x := by
  rw [regWriteBurst_eq, regWriteBurst_eq]; rfl
@[simp] theorem regReadBurst_relatch (a : Addr) (n : Nat) :
    regReadBurst a n (s.relatch p w x) = ((regReadBurst a n s).1, (regReadBurst a n s).2.relatch p w x) := by
  rw [regReadBurst_eq, regReadBurst_eq]; rfl
@[simp] theorem fifoWrite_relatch (l : List Byte) :
    fifoWrite l (s.relatch p w x) = (fifoWrite l s).relatch p w x := regWriteBurst_relatch p w x s regFifo l
@[simp] theorem fifoRead_relatch (n : Nat) :
    fifoRead n (s.relatch p w x) = ((fifoRead n s).1, (fifoRead n s).2.relatch p w x) :=
  regReadBurst_relatch p w x s regFifo n
@[simp] theorem applySeq_relatch (seq : List SeqStep) :
    applySeq seq (s.relatch p w x) = (applySeq seq s).relatch p w x := by
  rw [applySeq_eq, applySeq_eq]; rfl
@[simp] theorem setRfTxPower_relatch (v : Byte) :
    setRfTxPower v (s.relatch p w x) = (setRfTxPower v s).relatch p w x := rfl

/-! ### The mode controller (Machine/Msc) -/

@[simp] theorem antennaLowPower_relatch :
    antennaLowPower (s.relatch p w x) = (antennaLowPower s).relatch p w x := by
  rw [antennaLowPower_eq, antennaLowPower_eq]; rfl
@[simp] theorem setAntennaSwitch_relatch (m : OpMode) :
    setAntennaSwitch m (s.relatch p w x) = (setAntennaSwitch m s).relatch p w x := by
  rw [setAntennaSwitch_eq, setAntennaSwitch_eq]; rfl
@[simp] theorem setOperationMode_relatch (m : OpMode) :
    setOperationMode m (s.relatch p w x) = (setOperationMode m s).relatch p w x := by
  rw [setOperationMode_eq, setOperationMode_eq]; rfl
@[simp] theorem sleepOp_relatch : sleepOp (s.relatch p w x) = (sleepOp s).relatch p w x := by simp [sleepOp]
@[simp] theorem standbyOp_relatch : standbyOp (s.relatch p w x) = (standbyOp s).relatch p w x := by simp [standbyOp]
@[simp] theorem setModem_relatch (k : ModemKind) :
    setModem k (s.relatch p w x) = (setModem k s).relatch p w x := by
  rw [setModem_eq, setModem_eq, withModem_eq, withModem_eq]; rfl
@[simp] theorem radioReset_relatch : radioReset (s.relatch p w x) = (radioReset s).relatch p w x := rfl

/-! ### Starting an operation (Machine/Pipeline) -/

@[simp] theorem transmit_relatch (ms : Word) :
    transmit ms (s.relatch p w x) = (transmit ms s).relatch p w x := by
  rw [transmit_eq, transmit_eq]; rfl
@[simp] theorem wakeIfSleep_relatch : wakeIfSleep (s.relatch p w x) = (wakeIfSleep s).relatch p w x := by
  simp [wakeIfSleep]
@[simp] theorem sendFskLength_relatch (n : Byte) :
    sendFskLength n (s.relatch p w x) = (sendFskLength n s).relatch p w x := by simp [sendFskLength]
theorem sendFsk_relatch (n : Byte) :
    sendFsk n (s.relatch p w x) = mapNext (State.relatch · p w x) (sendFsk n s) := by
  simp only [sendFsk, relatch_withFskPh, wakeIfSleep_relatch, sendFskLength_relatch, inBuffer_relatch, memRead_relatch,
    fifoWrite_relatch, transmit_relatch, mapNext_ite]
  rfl
theorem sendLora_relatch (n : Byte) : sendLora n (s.relatch p w x) = (sendLora n s).relatch p w x := by
  simp only [sendLora, relatch_withLoraPh, regWrite_relatch, wakeIfSleep_relatch, memRead_relatch, fifoWrite_relatch,
    transmit_relatch]
  rfl
theorem execSend_relatch (n : Byte) (l : List Byte) :
    execSend n l (s.relatch p w x) = mapNext (State.relatch · p w x) (execSend n l s) := by
  rw [execSend, execSend, inBuffer_relatch, memWrite_relatch, State.relatch_modem]
  split
  · cases s.modem with
    | fsk =>
      simp only [sendFsk_relatch]
      cases sendFsk n (memWrite 0 l s) <;> rfl
    | lora => simp [sendLora_relatch]
  · rfl
@[simp] theorem receivePrepare_relatch : receivePrepare (s.relatch p w x) = (receivePrepare s).relatch p w x := by
  rw [receivePrepare, receivePrepare, State.relatch_modem]
  cases s.modem with
  | fsk => simp only [applySeq_relatch]; rfl
  | lora => exact applySeq_relatch ..
theorem execReceive_relatch :
    execReceive (s.relatch p w x) = mapNext (State.relatch · p w x) (execReceive s) := by
  simp only [execReceive, receiveMode_relatch, receivePrepare_relatch, zeroBuffer_relatch, relatch_withState,
    setOperationMode_relatch]
  rfl
theorem execStartCad_relatch :
    execStartCad (s.relatch p w x) = mapNext (State.relatch · p w x) (execStartCad s) := by
  rw [execStartCad, execStartCad, State.relatch_modem]
  cases s.modem with
  | fsk => rfl
  | lora => simp only [applySeq_relatch, setOperationMode_relatch]; rfl

/-! ### The other host commands (Machine/Facade) -/

@[simp] theorem applyInit_relatch (e : InitEntry) :
    applyInit (s.relatch p w x) e = (applyInit s e).relatch p w x := by simp [applyInit]
@[simp] theorem loadDefaultRegisters_relatch :
    loadDefaultRegisters (s.relatch p w x) = (loadDefaultRegisters s).relatch p w x := by
  rw [loadDefaultRegisters, loadDefaultRegisters, State.relatch_cfg]
  exact List.foldl_hom (State.relatch · p w x) fun u e => applyInit_relatch p w x u e
theorem execInitRadio_relatch (c : Byte) :
    execInitRadio c (s.relatch p w x) = mapNext (State.relatch · p w x) (execInitRadio c s) := by
  simp only [execInitRadio, relatch_withCbSet, radioReset_relatch, setOperationMode_relatch,
    loadDefaultRegisters_relatch, setModem_relatch]
  rfl
@[simp] theorem setChannelOp_relatch (f : Word) :
    setChannelOp f (s.relatch p w x) = (setChannelOp f s).relatch p w x := by
  rw [setChannelOp_eq, setChannelOp_eq]; rfl
@[simp] theorem storeRxConfig_relatch (a : RxConfigArgs) :
    storeRxConfig a (s.relatch p w x) = (storeRxConfig a s).relatch p w x := by
  rw [storeRxConfig, storeRxConfig]; cases a.modem <;> rfl
theorem execSetRxConfig_relatch (a : RxConfigArgs) :
    execSetRxConfig a (s.relatch p w x) = mapNext (State.relatch · p w x) (execSetRxConfig a s) := by
  simp [execSetRxConfig]
@[simp] theorem storeTxConfig_relatch (a : TxConfigArgs) :
    storeTxConfig a (s.relatch p w x) = (storeTxConfig a s).relatch p w x := by
  rw [storeTxConfig, storeTxConfig]; cases a.modem <;> rfl
@[simp] theorem setTxConfigOp_relatch (a : TxConfigArgs) :
    setTxConfigOp a (s.relatch p w x) = (setTxConfigOp a s).relatch p w x := by simp [setTxConfigOp]
theorem execSetTxContinuousWave_relatch (f : Word) (v : Byte) (d : Half) :
    execSetTxContinuousWave f v d (s.relatch p w x) =
      mapNext (State.relatch · p w x) (execSetTxContinuousWave f v d s) := by
  simp only [execSetTxContinuousWave, setChannelOp_relatch, setTxConfigOp_relatch, applySeq_relatch,
    relatch_withState, timerStart_relatch, setOperationMode_relatch]
  rfl
theorem execSetMaxPayloadLength_relatch (m : ModemKind) (v : Byte) :
    execSetMaxPayloadLength m v (s.relatch p w x) =
      mapNext (State.relatch · p w x) (execSetMaxPayloadLength m v s) := by
  cases m with
  | fsk => cases h : (setModem .fsk s).fsk.fixLen <;> simp [execSetMaxPayloadLength, h]
  | lora => simp [execSetMaxPayloadLength]
@[simp] theorem setPublicNetworkOp_relatch (e : Bool) :
    setPublicNetworkOp e (s.relatch p w x) = (setPublicNetworkOp e s).relatch p w x := by
  rw [setPublicNetworkOp, setModem_relatch]; rfl
@[simp] theorem respondMs_relatch (ms : Option Nat) :
    respondMs ms (s.relatch p w x) = (respondMs ms s).relatch p w x := by
  cases ms with
  | none => rfl
  | some n => simp [respondMs]
@[simp] theorem timeOnAirFsk_relatch (l : Byte) :
    timeOnAirFsk l (s.relatch p w x) = (timeOnAirFsk l s).relatch p w x := by
  rw [timeOnAirFsk, timeOnAirFsk, State.relatch_fsk]
  split <;> simp
@[simp] theorem timeOnAirLora_relatch (l : Byte) :
    timeOnAirLora l (s.relatch p w x) = (timeOnAirLora l s).relatch p w x := by
  simp only [timeOnAirLora, State.relatch_lora]
  cases loraBwHz s.lora.bandwidth.toNat <;> simp
theorem execTimeOnAir_relatch (m : ModemKind) (l : Byte) :
    execTimeOnAir m l (s.relatch p w x) = mapNext (State.relatch · p w x) (execTimeOnAir m l s) := by
  cases m with
  | fsk => exact next_relatch p w x (timeOnAirFsk_relatch ..)
  | lora => exact next_relatch p w x (timeOnAirLora_relatch ..)

@[simp] theorem randomLoop_relatch (n : Nat) (v : Word) :
    randomLoop n v (s.relatch p w x) = ((randomLoop n v s).1, (randomLoop n v s).2.relatch p w x) := by
  induction n generalizing v s with
  | zero => rfl
  | succ n ih => simp [randomLoop, ih]
theorem execRandom_relatch : execRandom (s.relatch p w x) = mapNext (State.relatch · p w x) (execRandom s) := by
  simp [execRandom]
@[simp] theorem currentRssi_relatch (m : ModemKind) :
    currentRssi m (s.relatch p w x) = ((currentRssi m s).1, (currentRssi m s).2.relatch p w x) := by cases m <;> rfl
@[simp] theorem senseLoop_relatch (m : ModemKind) (th : Int) (n : Nat) :
    senseLoop m th n (s.relatch p w x) = ((senseLoop m th n s).1, (senseLoop m th n s).2.relatch p w x) := by
  induction n generalizing s with
  | zero => rfl
  | succ n ih =>
    simp only [senseLoop, currentRssi_relatch, State.relatch_cfg, wait_relatch, ih]
    split <;> rfl
@[simp] theorem drawPolls_relatch (n : Nat) :
    drawPolls n (s.relatch p w x) = ((drawPolls n s).1, (drawPolls n s).2.relatch p w x) := rfl
theorem execPerformCarrierSense_relatch (m : ModemKind) (f : Word) (th : Half) (d : Word) :
    execPerformCarrierSense m f th d (s.relatch p w x) =
      mapNext (State.relatch · p w x) (execPerformCarrierSense m f th d s) := by
  simp [execPerformCarrierSense]
theorem execLock_relatch : execLock (s.relatch p w x) = mapNext (State.relatch · p w x) (execLock s) := by
  rw [execLock, execLock, State.relatch_lock, mapNext_ite]; rfl
theorem execUnlock_relatch : execUnlock (s.relatch p w x) = mapNext (State.relatch · p w x) (execUnlock s) := by
  rw [execUnlock, execUnlock, State.relatch_lock, mapNext_ite]; rfl

/-! ### The handlers (Machine/Events) -/

@[simp] theorem restartRx_relatch : restartRx (s.relatch p w x) = (restartRx s).relatch p w x := rfl
@[simp] theorem fskRxEnd_relatch : fskRxEnd (s.relatch p w x) = (fskRxEnd s).relatch p w x := by
  cases h : s.fsk.rxContinuous <;> simp [fskRxEnd, h]
@[simp] theorem fskRxAbort_relatch : fskRxAbort (s.relatch p w x) = (fskRxAbort s).relatch p w x := by
  simp [fskRxAbort]
@[simp] theorem readLength_relatch :
    readLength (s.relatch p w x) = ((readLength s).1, (readLength s).2.relatch p w x) := by
  rw [readLength_eq, readLength_eq]; rfl
@[simp] theorem fskExtractLength_relatch :
    fskExtractLength (s.relatch p w x) = ((fskExtractLength s).1, (fskExtractLength s).2.relatch p w x) := by
  simp only [fskExtractLength, State.relatch_fskPh, State.relatch_cfg, readLength_relatch, fskRxAbort_relatch]
  split
  · split <;> rfl
  · rfl
@[simp] theorem drainFsk_relatch (n : Nat) : drainFsk n (s.relatch p w x) = (drainFsk n s).relatch p w x := by
  rw [drainFsk_eq, drainFsk_eq]; rfl
@[simp] theorem refillFsk_relatch (n : Nat) : refillFsk n (s.relatch p w x) = (refillFsk n s).relatch p w x := by
  rw [refillFsk_eq, refillFsk_eq]; rfl
@[simp] theorem captureFskReadings_relatch :
    captureFskReadings (s.relatch p w x) = (captureFskReadings s).relatch p w x := rfl
@[simp] theorem fskDeliver_relatch : fskDeliver (s.relatch p w x) = (fskDeliver s).relatch p w x := by
  simp [fskDeliver]
@[simp] theorem fskComplete_relatch :
    fskComplete (s.relatch p w x) = mapNext (State.relatch · p w x) (fskComplete s) := by simp [fskComplete]
theorem dio0RxFsk_relatch :
    dio0RxFsk (s.relatch p w x) = mapNext (State.relatch · p w x) (dio0RxFsk s) := by
  cases h : s.fsk.crcOn <;> simp [dio0RxFsk, h]

@[simp] theorem loraRxEnd_relatch : loraRxEnd (s.relatch p w x) = (loraRxEnd s).relatch p w x := by
  cases h : s.lora.rxContinuous <;> simp [loraRxEnd, h]
@[simp] theorem loraDrain_relatch (n : Byte) : loraDrain n (s.relatch p w x) = (loraDrain n s).relatch p w x := by
  simp [loraDrain]
@[simp] theorem captureLoraReadings_relatch :
    captureLoraReadings (s.relatch p w x) = (captureLoraReadings s).relatch p w x := rfl
@[simp] theorem loraDeliver_relatch (n : Byte) :
    loraDeliver n (s.relatch p w x) = (loraDeliver n s).relatch p w x := by
  simp only [loraDeliver, relatch_withLoraPh, loraDrain_relatch, loraRxEnd_relatch, memRead_relatch, emit_relatch]
  rfl
theorem dio0RxLora_relatch : dio0RxLora (s.relatch p w x) = (dio0RxLora s).relatch p w x := by simp [dio0RxLora]
theorem dio0Tx_relatch : dio0Tx (s.relatch p w x) = (dio0Tx s).relatch p w x := by
  rw [dio0Tx, dio0Tx, State.relatch_modem]
  cases s.modem <;> (rw [emit_eq, emit_eq]; rfl)
theorem execDio0Irq_relatch :
    execDio0Irq (s.relatch p w x) = mapNext (State.relatch · p w x) (execDio0Irq s) := by
  rw [execDio0Irq, execDio0Irq, State.relatch_state, State.relatch_modem]
  split
  · exact dio0RxFsk_relatch ..
  · exact next_relatch p w x (dio0RxLora_relatch ..)
  · exact next_relatch p w x (dio0Tx_relatch ..)
  · rfl
  · rfl

theorem dio1RxFsk_relatch :
    dio1RxFsk (s.relatch p w x) = mapNext (State.relatch · p w x) (dio1RxFsk s) := by simp [dio1RxFsk]
theorem dio1TxFsk_relatch :
    dio1TxFsk (s.relatch p w x) = mapNext (State.relatch · p w x) (dio1TxFsk s) := by simp [dio1TxFsk]
theorem dio1RxLora_relatch : dio1RxLora (s.relatch p w x) = (dio1RxLora s).relatch p w x := by simp [dio1RxLora]
theorem execDio1Irq_relatch :
    execDio1Irq (s.relatch p w x) = mapNext (State.relatch · p w x) (execDio1Irq s) := by
  rw [execDio1Irq, execDio1Irq, State.relatch_state, State.relatch_modem]
  split
  · exact dio1RxFsk_relatch ..
  · exact dio1TxFsk_relatch ..
  · exact next_relatch p w x (dio1RxLora_relatch ..)
  · rfl
  · rfl
  · rfl

theorem dio2RxFsk_relatch : dio2RxFsk (s.relatch p w x) = (dio2RxFsk s).relatch p w x := by simp [dio2RxFsk]
theorem dio2Lora_relatch : dio2Lora (s.relatch p w x) = (dio2Lora s).relatch p w x := by
  cases h : s.lora.freqHopOn <;> simp [dio2Lora, h]
theorem execDio2Irq_relatch :
    execDio2Irq (s.relatch p w x) = mapNext (State.relatch · p w x) (execDio2Irq s) := by
  rw [execDio2Irq, execDio2Irq, State.relatch_state, State.relatch_modem]
  split
  · exact next_relatch p w x (dio2RxFsk_relatch ..)
  · exact next_relatch p w x (dio2Lora_relatch ..)
  · exact next_relatch p w x (dio2Lora_relatch ..)
  · rfl
  · rfl
  · rfl

theorem dio3Lora_relatch : dio3Lora (s.relatch p w x) = (dio3Lora s).relatch p w x := by
  rw [dio3Lora, dio3Lora, State.relatch_state]
  cases s.state <;> (rw [emit_eq, emit_eq]; rfl)
theorem execDio3Irq_relatch :
    execDio3Irq (s.relatch p w x) = mapNext (State.relatch · p w x) (execDio3Irq s) := by
  rw [execDio3Irq, execDio3Irq, State.relatch_modem]
  cases s.modem with
  | fsk => rfl
  | lora => exact next_relatch p w x (dio3Lora_relatch ..)
theorem execDio4Irq_relatch :
    execDio4Irq (s.relatch p w x) = mapNext (State.relatch · p w x) (execDio4Irq s) := by
  rw [execDio4Irq, execDio4Irq, State.relatch_modem]
  cases s.modem <;> rfl

theorem timeoutRecovery_relatch : timeoutRecovery (s.relatch p w x) = (timeoutRecovery s).relatch p w x := by
  simp only [timeoutRecovery, timerCancel_relatch, setOperationMode_relatch, loadDefaultRegisters_relatch,
    setModem_relatch, setPublicNetworkOp_relatch, relatch_withState, emit_relatch]
  rfl
theorem execTimeoutIrq_relatch :
    execTimeoutIrq (s.relatch p w x) = mapNext (State.relatch · p w x) (execTimeoutIrq s) := by
  rw [execTimeoutIrq, execTimeoutIrq, State.relatch_state]
  cases s.state with
  | txRunning => exact next_relatch p w x (timeoutRecovery_relatch ..)
  | idle => rfl
  | rxRunning => rfl
  | cad => rfl

end Relatch

end Sys2Proof.Machine

section

open Sys2Proof Sys2Proof.Machine

/-- Settles O15: each instruction's meaning commutes with the replacement. An arm closed by `rfl` touches neither the
replaced fields nor an operation that branches. -/
theorem edgesDoNotInterfere : Obligations.EdgesDoNotInterfere := by
  intro i s p w x
  cases i with
  | initRadio c => exact execInitRadio_relatch ..
  | setChannel f => exact next_respond_relatch p w x [] (setChannelOp_relatch ..)
  | getStatus => rfl
  | sleep => exact next_respond_relatch p w x [] (sleepOp_relatch ..)
  | standby => exact next_respond_relatch p w x [] (standbyOp_relatch ..)
  | setRxConfig a => exact execSetRxConfig_relatch ..
  | setTxConfig a => exact next_respond_relatch p w x [] (setTxConfigOp_relatch ..)
  | send n l => exact execSend_relatch ..
  | receive => exact execReceive_relatch ..
  | startCad => exact execStartCad_relatch ..
  | setTxContinuousWave f v d => exact execSetTxContinuousWave_relatch ..
  | setMaxPayloadLength m v => exact execSetMaxPayloadLength_relatch ..
  | setPublicNetwork e => exact next_respond_relatch p w x [] (setPublicNetworkOp_relatch ..)
  | performCarrierSense m f th d => exact execPerformCarrierSense_relatch ..
  | timeOnAir m l => exact execTimeOnAir_relatch ..
  | random => exact execRandom_relatch ..
  | checkRfFrequency f => rfl
  | lock => exact execLock_relatch ..
  | unlock => exact execUnlock_relatch ..
  | dio0Irq => exact execDio0Irq_relatch ..
  | dio1Irq => exact execDio1Irq_relatch ..
  | dio2Irq => exact execDio2Irq_relatch ..
  | dio3Irq => exact execDio3Irq_relatch ..
  | dio4Irq => exact execDio4Irq_relatch ..
  | dio5Irq => rfl
  | timeoutIrq => exact execTimeoutIrq_relatch ..
  | writeRegister a v => rfl
  | writeRegisters a l => exact next_relatch p w x (regWriteBurst_relatch ..)
  | readRegister a => rfl
  | readRegisters a n =>
    exact congrArg (fun r => Host.Outcome.next (returns (.bytes r.1) r.2)) (regReadBurst_relatch p w x s a n)
  | writeFifo l => exact next_relatch p w x (fifoWrite_relatch ..)
  | readFifo n => exact congrArg (fun r => Host.Outcome.next (returns (.bytes r.1) r.2)) (fifoRead_relatch p w x s n)
  | setOperationMode m => exact next_relatch p w x (setOperationMode_relatch ..)
  | setModem k => exact next_relatch p w x (setModem_relatch ..)
  | radioReset => rfl
  | transmit ms => exact next_relatch p w x (transmit_relatch ..)
  | setAntennaSwitch m => exact next_relatch p w x (setAntennaSwitch_relatch ..)
  | antennaLowPower => exact next_relatch p w x (antennaLowPower_relatch ..)
  | loadDefaultRegisters => exact next_relatch p w x (loadDefaultRegisters_relatch ..)
  | setRfTxPower v => rfl
  | fskBandwidthCode bw => rfl
  | txPowerEncode v k => rfl
  | fskTimeOnAir => rfl
  | loraTimeOnAir => rfl
  | fskRxAbort => exact next_relatch p w x (fskRxAbort_relatch ..)

end

/-! What every instruction keeps, said once as a relation between the state before and the state after. `Evolves`
composes, so an instruction's proof is the chain of its operations, in the order they run; the statements about the
invariant, the watched transmission and the owners of fields are read off it. -/

namespace Sys2Proof.Machine

/-! ### The invariant in parts -/

/-- The buffer's part of `Inv` (R24, R53). -/
structure BufferOk (c : Config) (m : Memory) : Prop where
  wf : Memory.wf m = true
  below : Memory.below c.maxDataBufferSize m = true

/-- The part of `Inv` about the FSK packet handler (R18, R21, R130). -/
structure FskOk (c : Config) (p : FskPacket) : Prop where
  moved_le_size : p.nbBytes.toNat ≤ p.size.toNat
  size_le_buffer : p.size.toNat ≤ c.maxDataBufferSize
  size_is_byte : p.size.toNat ≤ 255
  chunk_le : p.chunkSize.toNat ≤ max c.fskSingleWriteMax c.fifoBurst
  thresh_masked : p.fifoThresh &&& ~~~c.regmap.fifoThreshMask = 0
  gain_3_bits : p.rxGain.toNat < 8
  rssi : -127 ≤ p.rssiValue.toInt ∧ p.rssiValue.toInt ≤ 0
  no_sync : p.syncWordDetected = false

/-- The part of `Inv` about the LoRa packet handler (R19, R130). -/
structure LoraOk (c : Config) (q : LoraPacket) : Prop where
  size_le_buffer : q.size.toNat ≤ c.maxDataBufferSize
  snr : -32 ≤ q.snrValue.toInt ∧ q.snrValue.toInt ≤ 31

/-- `Inv` in its parts. -/
theorem inv_iff (s : State) : Inv s ↔ s.cfg.wellFormed = true ∧ BufferOk s.cfg s.dataBuf ∧ FskOk s.cfg s.fskPh ∧
    LoraOk s.cfg s.loraPh ∧ (s.state = .idle → s.timer = .disarmed) ∧ (s.gpio.pwrAmpCtl = false ∧ s.gpio.tcxo = true) ∧
    s.rst = .released ∧ (s.cfg.workerPresent = false → s.worker = .waiting) := by
  constructor
  · intro h
    exact ⟨h.cfg_wf, ⟨h.buf_wf, h.buf_below⟩, ⟨h.moved_le_size, h.size_le_buffer, h.size_is_byte, h.chunk_le,
      h.thresh_masked, h.gain_3_bits, h.fsk_rssi, h.no_sync⟩, ⟨h.lora_size_le_buffer, h.snr⟩, h.idle_disarmed,
      ⟨h.pa_low, h.tcxo_high⟩, h.released, h.no_worker⟩
  · rintro ⟨hc, hb, hf, hl, hi, ⟨hp, ht⟩, hr, hw⟩
    exact ⟨hc, hb.wf, hb.below, hf.moved_le_size, hf.size_le_buffer, hf.size_is_byte, hl.size_le_buffer, hf.chunk_le,
      hf.thresh_masked, hf.gain_3_bits, hf.rssi, hl.snr, hf.no_sync, hi, hp, ht, hr, hw⟩

/-! ### The relation -/

/-- The fields that few instructions write (R17, R24, R27, R31, R33, R212). -/
inductive Owned where
  | arming | lock | channel | dataBuf | network

/-- The two optional lines after a change of levels: `tcxo` as it was, `pwr_amp_ctl` not raised (R145). -/
def LinesKept (g g' : Gpio) : Prop := g'.tcxo = g.tcxo ∧ (g'.pwrAmpCtl = true → g.pwrAmpCtl = true)

/-- The timer a rule that writes `S.state` leaves: disarmed in `Idle`, armed in `TxRunning` (R20, R153, R165). -/
def Timed (st : RadioState) (tm : Timer) : Prop := (st = .idle → tm = .disarmed) ∧ (st = .txRunning → tm ≠ .disarmed)

/-- `t` is a state an instruction that writes no owned field but those of `W` may leave of `s`. -/
structure Evolves (W : List Owned) (s t : State) : Prop where
  cfg : t.cfg = s.cfg
  released : s.rst = .released → t.rst = .released
  lines : LinesKept s.gpio t.gpio
  timing : (t.state = s.state ∧ t.timer = s.timer) ∨ Timed t.state t.timer
  buffer : BufferOk s.cfg s.dataBuf → BufferOk t.cfg t.dataBuf
  fskPh : s.cfg.wellFormed = true → FskOk s.cfg s.fskPh → FskOk t.cfg t.fskPh
  loraPh : LoraOk s.cfg s.loraPh → LoraOk t.cfg t.loraPh
  arming : .arming ∉ W → t.irqArmed = s.irqArmed ∧ t.cbSet = s.cbSet
  lock : .lock ∉ W → t.lock = s.lock
  channel : .channel ∉ W → t.channel = s.channel
  dataBuf : .dataBuf ∉ W → t.dataBuf = s.dataBuf
  network : .network ∉ W → t.lora.publicNetwork = s.lora.publicNetwork

theorem LinesKept.trans {a b c : Gpio} (h : LinesKept a b) (h' : LinesKept b c) : LinesKept a c :=
  ⟨h'.1.trans h.1, h.2 ∘ h'.2⟩

section Evolves

variable {W : List Owned} {s t u : State}

/-- An update that touches no field of a clause takes the clause from here. -/
theorem Evolves.refl (s : State) : Evolves W s s where
  cfg := rfl
  released := id
  lines := ⟨rfl, id⟩
  timing := .inl ⟨rfl, rfl⟩
  buffer := id
  fskPh _ := id
  loraPh := id
  arming _ := ⟨rfl, rfl⟩
  lock _ := rfl
  channel _ := rfl
  dataBuf _ := rfl
  network _ := rfl

theorem Evolves.trans (h : Evolves W s t) (h' : Evolves W t u) : Evolves W s u where
  cfg := h'.cfg.trans h.cfg
  released := h'.released ∘ h.released
  lines := h.lines.trans h'.lines
  timing := by
    obtain ⟨hs, ht⟩ | hu := h'.timing
    · rw [hs, ht]; exact h.timing
    · exact .inr hu
  buffer := h'.buffer ∘ h.buffer
  fskPh hc := h'.fskPh (h.cfg ▸ hc) ∘ h.fskPh hc
  loraPh := h'.loraPh ∘ h.loraPh
  arming hW := ⟨(h'.arming hW).1.trans (h.arming hW).1, (h'.arming hW).2.trans (h.arming hW).2⟩
  lock hW := (h'.lock hW).trans (h.lock hW)
  channel hW := (h'.channel hW).trans (h.channel hW)
  dataBuf hW := (h'.dataBuf hW).trans (h.dataBuf hW)
  network hW := (h'.network hW).trans (h.network hW)

end Evolves

/-! ### Mode control -/

/-- Bus, pin and timer activity that leaves state and timer alone or ends in `Idle` with the timer disarmed (R153). -/
structure Control (s t : State) : Prop where
  frame : ControlOf s t
  lines : LinesKept s.gpio t.gpio
  settled : (t.state = s.state ∧ t.timer = s.timer) ∨ (t.state = .idle ∧ t.timer = .disarmed)

section Control

variable {s t u : State}

theorem Control.refl (s : State) : Control s s := ⟨.refl s, ⟨rfl, id⟩, .inl ⟨rfl, rfl⟩⟩

theorem Control.trans (h : Control s t) (h' : Control t u) : Control s u where
  frame := h.frame.trans h'.frame
  lines := h.lines.trans h'.lines
  settled := by
    obtain ⟨hs, ht⟩ | hu := h'.settled
    · rw [hs, ht]; exact h.settled
    · exact .inr hu

theorem Control.evolves {W : List Owned} (h : Control s t) : Evolves W s t := by
  obtain ⟨hf, hl, hs⟩ := h
  obtain ⟨m, st, tm, g, n, ev, rfl⟩ := hf
  exact { Evolves.refl s with
    lines := hl
    timing := hs.imp_right fun ⟨hi, hd⟩ => by rw [hi, hd]; exact ⟨fun _ => rfl, nofun⟩ }

theorem Control.cfg (h : Control s t) : t.cfg = s.cfg := h.frame.cfg

theorem Control.fskPh (h : Control s t) : t.fskPh = s.fskPh := by rw [h.frame.eq]

theorem Control.lora (h : Control s t) : t.lora = s.lora := by rw [h.frame.eq]

theorem Control.disarmed (h : Control s t) (hs : s.timer = .disarmed) : t.timer = .disarmed := by
  obtain ⟨-, ht⟩ | ⟨-, ht⟩ := h.settled
  · rw [ht, hs]
  · exact ht

end Control

section Operations

variable (s : State)

theorem after_control (n : Nat) (l : List Event) : Control s (s.after n l) := ⟨.after s n l, ⟨rfl, id⟩, .inl ⟨rfl, rfl⟩⟩

theorem wait_control (n : Nat) : Control s (wait n s) := by
  rw [wait_eq]; exact after_control ..
theorem regWrite_control (a : Addr) (v : Byte) : Control s (regWrite a v s) := by
  rw [regWrite_eq]; exact after_control ..
theorem regRead_control (a : Addr) : Control s (regRead a s).2 := after_control ..
theorem respond_control (l : List Byte) : Control s (respond l s) := by
  rw [respond_eq]; exact after_control ..
theorem raiseError_control (e : Status) : Control s (raiseError e s) := by
  rw [raiseError_eq]; exact after_control ..
theorem regSet_control (a : Addr) (m o : Byte) : Control s (regSet a m o s) := by
  rw [regSet_eq]; exact after_control ..
theorem applySeq_control (seq : List SeqStep) : Control s (applySeq seq s) := by
  rw [applySeq_eq]; exact after_control ..
theorem regWriteBurst_control (a : Addr) (l : List Byte) : Control s (regWriteBurst a l s) := by
  rw [regWriteBurst_eq]; exact after_control ..
theorem regReadBurst_control (a : Addr) (n : Nat) : Control s (regReadBurst a n s).2 := by
  rw [regReadBurst_eq]; exact after_control ..
theorem fifoWrite_control (l : List Byte) : Control s (fifoWrite l s) := regWriteBurst_control ..
theorem fifoRead_control (n : Nat) : Control s (fifoRead n s).2 := regReadBurst_control ..
theorem emit_control (c : Callback) : Control s (emit c s) := by rw [emit_eq]; exact after_control ..
theorem setRfTxPower_control (p : Byte) : Control s (setRfTxPower p s) := by
  rw [setRfTxPower_eq]; exact after_control ..
theorem goIdle_control : Control s (goIdle s) :=
  ⟨⟨s.modem, .idle, .disarmed, s.gpio, 0, [.timerCancel], goIdle_eq s⟩, ⟨rfl, id⟩, .inr ⟨rfl, rfl⟩⟩

/-- A level R145 allows: never one of `tcxo`, never a high one of `pwr_amp_ctl`. -/
def SafeLevel (x : Pin × Bool) : Prop := x.1 ≠ .tcxo ∧ (x.1 = .pwrAmpCtl → x.2 = false)

theorem gpioPut_lines (g : Gpio) {x : Pin × Bool} (h : SafeLevel x) : LinesKept g (gpioPut g x.1 x.2) := by
  obtain ⟨p, b⟩ := x
  obtain ⟨ht, hp⟩ := h
  cases p with
  | tcxo => exact absurd rfl ht
  | pwrAmpCtl => exact ⟨rfl, fun hb => absurd ((hp rfl).symm.trans hb) nofun⟩
  | rfSwitchCtl1 | rfSwitchCtl2 | txctl | rxctl | antSwitch => exact ⟨rfl, id⟩

theorem pinsDriven_lines (w : Wiring) {l : List (Pin × Bool)} (h : ∀ x ∈ l, SafeLevel x) (g : Gpio) :
    LinesKept g (pinsDriven w l g) := by
  rw [pinsDriven]
  have hf : ∀ x ∈ l.filter (fun x => w.connected x.1), SafeLevel x := fun x hx => h x (List.mem_of_mem_filter hx)
  generalize l.filter (fun x => w.connected x.1) = l' at hf
  induction l' generalizing g with
  | nil => exact ⟨rfl, id⟩
  | cons x l' ih =>
    exact (gpioPut_lines g (hf x List.mem_cons_self)).trans (ih _ fun y hy => hf y (List.mem_cons_of_mem x hy))

theorem lowPowerPins_safe (w : Wiring) : ∀ x ∈ lowPowerPins w, SafeLevel x := by simp [lowPowerPins, SafeLevel]

theorem switchPins_safe (w : Wiring) (sch : Scheme) (c : ModeClass) (boost : Bool) :
    ∀ x ∈ switchPins w sch c boost, SafeLevel x := by
  cases sch <;> cases c <;> simp [switchPins, pinsA, pinsB, SafeLevel]

theorem modeLevels_safe (c : Config) (mode : OpMode) (v : Byte) : ∀ x ∈ modeLevels c mode v, SafeLevel x := by
  rw [modeLevels]
  split
  · exact lowPowerPins_safe _
  · exact switchPins_safe _ _ _ _

theorem antennaLowPower_control : Control s (antennaLowPower s) := by
  rw [antennaLowPower_eq]
  exact ⟨⟨_, _, _, _, _, _, rfl⟩, pinsDriven_lines _ (lowPowerPins_safe _) _, .inl ⟨rfl, rfl⟩⟩

theorem setAntennaSwitch_control (mode : OpMode) : Control s (setAntennaSwitch mode s) := by
  rw [setAntennaSwitch_eq]
  exact ⟨⟨_, _, _, _, _, _, rfl⟩, pinsDriven_lines _ (switchPins_safe _ _ _ _) _, .inl ⟨rfl, rfl⟩⟩

theorem setOperationMode_control (mode : OpMode) : Control s (setOperationMode mode s) := by
  rw [setOperationMode_eq]
  exact ⟨⟨_, _, _, _, _, _, rfl⟩, pinsDriven_lines _ (modeLevels_safe _ _ _) _, .inl ⟨rfl, rfl⟩⟩

theorem sleepOp_control : Control s (sleepOp s) := (goIdle_control s).trans (setOperationMode_control _ _)
theorem standbyOp_control : Control s (standbyOp s) := (goIdle_control s).trans (setOperationMode_control _ _)

theorem setModem_control (k : ModemKind) : Control s (setModem k s) := by
  have hm (t : State) : Control t { t with modem := k } :=
    ⟨⟨k, t.state, t.timer, t.gpio, 0, [], by rw [after_nil]; rfl⟩, ⟨rfl, id⟩, .inl ⟨rfl, rfl⟩⟩
  have hr := regRead_control s s.cfg.regmap.opmode
  rw [setModem]
  split
  · exact hr.trans (hm _)
  · exact ((hr.trans (hm _)).trans (sleepOp_control _)).trans ((regSet_control _ _ _ _).trans (applySeq_control _ _))

theorem loadDefaultRegisters_control : Control s (loadDefaultRegisters s) := by
  rw [loadDefaultRegisters]
  generalize s.cfg.chipSeq.initRegs = l
  induction l generalizing s with
  | nil => exact .refl s
  | cons e l ih => exact ((setModem_control s e.kind).trans (regWrite_control _ _ _)).trans (ih _)

theorem wakeIfSleep_control : Control s (wakeIfSleep s) := by
  have hr := regRead_control s s.cfg.regmap.opmode
  rw [wakeIfSleep]
  split
  · exact (hr.trans (standbyOp_control _)).trans (wait_control _ _)
  · exact hr

theorem sendFskLength_control (size : Byte) : Control s (sendFskLength size s) := by
  rw [sendFskLength_eq]; exact after_control ..

theorem fskRxEnd_control : Control s (fskRxEnd s) := by
  rw [fskRxEnd]
  split
  · exact regSet_control ..
  · exact goIdle_control s

theorem loraRxEnd_control : Control s (loraRxEnd s) := by
  rw [loraRxEnd]
  split
  · exact .refl s
  · exact goIdle_control s

theorem readLength_control : Control s (readLength s).2 := by rw [readLength_eq]; exact after_control ..

theorem randomLoop_control (n : Nat) (v : Word) : Control s (randomLoop n v s).2 := by
  rw [randomLoop_state]; exact after_control ..

theorem senseLoop_control (m : ModemKind) (th : Int) (n : Nat) : Control s (senseLoop m th n s).2 := by
  obtain ⟨j, free, -, -, -, h⟩ := senseLoop_spec m th n s
  rw [h]; exact after_control ..

theorem respondMs_control (ms : Option Nat) : Control s (respondMs ms s) := by
  cases ms with
  | none => exact raiseError_control ..
  | some n =>
    rw [respondMs]
    split
    · exact respond_control ..
    · exact raiseError_control ..

theorem timeOnAirFsk_control (l : Byte) : Control s (timeOnAirFsk l s) := by
  rw [timeOnAirFsk]
  split
  · exact raiseError_control ..
  · exact ((regRead_control _ _).trans (regRead_control _ _)).trans (respondMs_control _ _)

theorem timeOnAirLora_control (l : Byte) : Control s (timeOnAirLora l s) := by
  rw [timeOnAirLora]
  split
  · exact raiseError_control ..
  · split
    · exact raiseError_control ..
    · exact respondMs_control ..

end Operations

end Sys2Proof.Machine

namespace Sys2Proof.Machine

/-! ### Settings, packet records and the buffer -/

section Updates

variable {W : List Owned} {s t u : State}

theorem Evolves.control (h : Evolves W s t) (h' : Control t u) : Evolves W s u := h.trans h'.evolves

theorem returns_evolves (r : Returned) (s : State) : Evolves W s (returns r s) := { Evolves.refl s with cfg := rfl }

/-- Entering `TxRunning` arms the timer (R20, R165). -/
theorem startTx_evolves (ms : Word) (s : State) : Evolves W s (timerStart ms { s with state := .txRunning }) where
  __ := Evolves.refl s
  timing := .inr ⟨nofun, fun _ => nofun⟩

/-- Entering `RxRunning` leaves the timer alone (R166). -/
theorem startRx_evolves (s : State) : Evolves W s { s with state := .rxRunning } where
  __ := Evolves.refl s
  timing := .inr ⟨nofun, nofun⟩

/-- Entering `Cad` leaves the timer alone (R168). -/
theorem startCad_evolves (s : State) : Evolves W s { s with state := .cad } where
  __ := Evolves.refl s
  timing := .inr ⟨nofun, nofun⟩

theorem storeRxConfig_evolves (a : RxConfigArgs) (s : State) : Evolves W s (storeRxConfig a s) := by
  rw [storeRxConfig]
  cases a.modem <;> exact { Evolves.refl s with cfg := rfl }

theorem storeTxConfig_evolves (a : TxConfigArgs) (s : State) : Evolves W s (storeTxConfig a s) := by
  rw [storeTxConfig]
  cases a.modem <;> exact { Evolves.refl s with cfg := rfl }

theorem setTxConfigOp_evolves (a : TxConfigArgs) (s : State) : Evolves W s (setTxConfigOp a s) :=
  (((setModem_control s a.modem).trans (setRfTxPower_control _ _)).evolves.trans (storeTxConfig_evolves a _)).control
    (applySeq_control _ _)

theorem setChannelOp_evolves (hW : .channel ∈ W) (f : Word) (s : State) : Evolves W s (setChannelOp f s) :=
  have store : Evolves W s { s with channel := f } := { Evolves.refl s with channel := fun h => absurd hW h }
  store.control (applySeq_control _ _)

theorem setPublicNetworkOp_evolves (hW : .network ∈ W) (e : Bool) (s : State) :
    Evolves W s (setPublicNetworkOp e s) := by
  rw [setPublicNetworkOp_eq, ← setModem_eq]
  have store (t : State) (l : LoraConfig) : Evolves W t { t with lora := l } :=
    { Evolves.refl t with network := fun h => absurd hW h }
  exact ((setModem_control s .lora).trans (after_control _ _ _)).evolves.trans (store _ _)

/-- A new FSK packet record is sound where it keeps its part of the invariant. -/
theorem withFskPh_evolves {p : FskPacket}
    (hp : s.cfg.wellFormed = true → FskOk s.cfg s.fskPh → FskOk s.cfg p) : Evolves W s { s with fskPh := p } where
  __ := Evolves.refl s
  fskPh := hp

theorem withLoraPh_evolves {q : LoraPacket} (hq : LoraOk s.cfg s.loraPh → LoraOk s.cfg q) :
    Evolves W s { s with loraPh := q } where
  __ := Evolves.refl s
  loraPh := hq

/-- A run of bytes written inside the buffer (R53). -/
theorem memWrite_evolves (hW : .dataBuf ∈ W) {i : Nat} {l : List Byte} (h : i + l.length ≤ s.cfg.maxDataBufferSize) :
    Evolves W s (memWrite i l s) where
  __ := Evolves.refl s
  buffer hb := ⟨Memory.writeList_wf i l hb.wf, Memory.writeList_below i l h hb.below⟩
  dataBuf hn := absurd hW hn

theorem zeroBuffer_evolves (hW : .dataBuf ∈ W) (s : State) : Evolves W s (zeroBuffer s) where
  __ := Evolves.refl s
  buffer hb := by
    refine ⟨zeroBuffer_wf hb.wf, ?_⟩
    have below := hb.below
    simp only [Memory.below, List.all_eq_true] at below ⊢
    exact fun c hc => below c (List.mem_of_mem_filter hc)
  dataBuf hn := absurd hW hn

theorem clearFskPacketState_evolves (s : State) : Evolves W s (clearFskPacketState s) :=
  withFskPh_evolves fun _ h => { h with
    moved_le_size := Nat.le_refl _, size_le_buffer := Nat.zero_le _, size_is_byte := Nat.zero_le _, no_sync := rfl }

theorem latchPreamble_evolves (s : State) : Evolves W s (latchPreamble s) := withFskPh_evolves fun _ h => { h with }

theorem captureFifoThresh_evolves (s : State) : Evolves W s (captureFifoThresh s) := by
  rw [captureFifoThresh_eq]
  refine (after_control s _ _).evolves.trans (withFskPh_evolves fun _ h => { h with thresh_masked := ?_ })
  rw [State.after_cfg, BitVec.and_assoc, BitVec.and_not_self]
  exact BitVec.and_zero

end Updates

/-! ### Transmission (R161 to R164) -/

section Transmission

variable {W : List Owned} {s : State}

theorem transmit_evolves (ms : Word) (s : State) : Evolves W s (transmit ms s) := by
  rw [transmit]
  have hm (m : ModemKind) := applySeq_control s (txMap s.cfg.chipSeq m s.lora.freqHopOn)
  have start (u : State) :
      Evolves W u (setOperationMode .transmitter (timerStart ms { u with state := .txRunning })) :=
    (startTx_evolves ms u).control (setOperationMode_control _ _)
  cases s.modem with
  | fsk => exact ((hm .fsk).evolves.trans (captureFifoThresh_evolves _)).trans (start _)
  | lora => exact (hm .lora).evolves.trans (start _)

/-- The ranges of the chunk parameters (R6, R130, R161). -/
theorem chunk_ranges {c : Config} (h : c.wellFormed = true) :
    c.fifoBurst ≤ c.fskSingleWriteMax + 1 ∧ c.fskSingleWriteMax ≤ 255 ∧ c.fifoBurst ≤ 255 := by
  simp only [Config.wellFormed, Bool.and_eq_true, decide_eq_true_eq] at h
  omega

/-- The first chunk is a part of the body, a byte, and within the chunk parameters (R161). -/
theorem firstChunk_le {c : Config} (h : c.wellFormed = true) (n : Nat) :
    firstChunk c n ≤ n ∧ firstChunk c n ≤ 255 ∧ firstChunk c n ≤ max c.fskSingleWriteMax c.fifoBurst := by
  obtain ⟨hb, hs, h255⟩ := chunk_ranges h
  rw [firstChunk]
  split
  · omega
  · split <;> omega

theorem chunkField_toNat {n : Nat} (h : n ≤ 255) : (chunkField n).toNat = n := by
  rw [chunkField, if_pos (by omega), BitVec.toNat_ofNat, Nat.mod_eq_of_lt (by omega)]

theorem nbBytesField_toNat {n : Nat} (h : n ≤ 255) : (nbBytesField n).toNat = n := by
  rw [nbBytesField, if_pos (by omega), BitVec.toNat_ofNat, Nat.mod_eq_of_lt (by omega)]

theorem toNat_byte_to_half (v : Byte) : (v.setWidth 16).toNat = v.toNat := by
  rw [BitVec.toNat_setWidth, Nat.mod_eq_of_lt (by omega)]

/-- The body of an FSK `SEND` (R161): its size, its chunk size and its first chunk keep the counts in order. -/
theorem sendFsk_evolves {size : Byte} {t : State} (hfit : size.toNat ≤ s.cfg.maxDataBufferSize)
    (h : sendFsk size s = .next t) : Evolves W s t := by
  simp only [sendFsk] at h
  split at h
  case isFalse => exact nomatch h
  obtain rfl := Host.Outcome.next.inj h
  have hsize : Evolves W s { s with fskPh := { s.fskPh with nbBytes := 0, size := size.setWidth 16 } } :=
    withFskPh_evolves fun _ hp => { hp with
      moved_le_size := Nat.zero_le _
      size_le_buffer := by rw [toNat_byte_to_half]; exact hfit
      size_is_byte := by rw [toNat_byte_to_half]; omega }
  have hlen := (wakeIfSleep_control { s with fskPh := { s.fskPh with nbBytes := 0, size := size.setWidth 16 } }).trans
    (sendFskLength_control _ size)
  generalize sendFskLength size (wakeIfSleep _) = u at hlen
  have hchunk : Evolves W u
      { u with fskPh := { u.fskPh with chunkSize := chunkField (firstChunk s.cfg size.toNat) } } :=
    withFskPh_evolves fun hc hp => { hp with
      chunk_le := by
        rw [hlen.cfg] at hc ⊢
        have hle := firstChunk_le hc size.toNat
        rw [chunkField_toNat hle.2.1]
        exact hle.2.2 }
  have hmoved (v : State) (hc : v.cfg = s.cfg) (hv : v.fskPh.size = size.setWidth 16) :
      Evolves W v { v with fskPh := { v.fskPh with nbBytes := nbBytesField (firstChunk s.cfg size.toNat) } } :=
    withFskPh_evolves fun hwf hp => { hp with
      moved_le_size := by
        rw [hc] at hwf
        have hle := firstChunk_le hwf size.toNat
        rw [nbBytesField_toNat hle.2.1, hv, toNat_byte_to_half]
        exact hle.1 }
  have hfifo := fifoWrite_control
    { u with fskPh := { u.fskPh with chunkSize := chunkField (firstChunk s.cfg size.toNat) } }
    (memRead 0 (firstChunk s.cfg size.toNat)
      { u with fskPh := { u.fskPh with chunkSize := chunkField (firstChunk s.cfg size.toNat) } })
  exact ((((hsize.control hlen).trans hchunk).control hfifo).trans
    (hmoved _ (hfifo.cfg.trans hlen.cfg) (by rw [hfifo.fskPh]; exact congrArg FskPacket.size hlen.fskPh))).trans
    (transmit_evolves _ _)

theorem sendLora_evolves {size : Byte} (hfit : size.toNat ≤ s.cfg.maxDataBufferSize) :
    Evolves W s (sendLora size s) := by
  have hsize : Evolves W s { s with loraPh := { s.loraPh with size := size } } :=
    withLoraPh_evolves fun hq => { hq with size_le_buffer := hfit }
  exact ((((((hsize.control (regWrite_control _ _ _)).control (regWrite_control _ _ _)).control
    (regWrite_control _ _ _)).control (wakeIfSleep_control _)).control (fifoWrite_control _ _))).trans
    (transmit_evolves _ _)

end Transmission

/-! ### Reception (R181 to R190) -/

section Reception

variable {W : List Owned} {s : State}

theorem fskRxAbort_evolves (s : State) : Evolves W s (fskRxAbort s) :=
  (((applySeq_control s _).trans (fskRxEnd_control _)).trans (emit_control _ _)).evolves.trans
    (clearFskPacketState_evolves _)

theorem fskExtractLength_evolves (s : State) : Evolves W s (fskExtractLength s).2 := by
  have hr := readLength_control s
  simp only [fskExtractLength]
  split
  next hnew =>
    split
    next hover => exact hr.evolves.trans (fskRxAbort_evolves _)
    next hle =>
      refine hr.evolves.trans (withFskPh_evolves fun _ hp => { hp with
        moved_le_size := ?_, size_le_buffer := ?_, size_is_byte := ?_ })
      · rw [hr.fskPh, hnew.2]
        exact Nat.zero_le _
      · rw [toNat_byte_to_half, hr.cfg]
        omega
      · rw [toNat_byte_to_half]
        omega
  · exact .refl s

theorem packetInBuffer_iff (n : Nat) (s : State) : packetInBuffer n s = true ↔
    s.fskPh.nbBytes.toNat ≤ s.fskPh.size.toNat ∧ s.fskPh.nbBytes.toNat + n ≤ s.cfg.maxDataBufferSize := by
  simp [packetInBuffer, inBuffer]

/-- Moving bytes that are left keeps the counts in order (R21). -/
theorem FskOk.moved {n : Nat} (hp : FskOk s.cfg s.fskPh) (hn : n ≤ bytesLeft s) :
    FskOk s.cfg { s.fskPh with nbBytes := s.fskPh.nbBytes + BitVec.ofNat 16 n } where
  __ := hp
  moved_le_size := by
    have h1 := hp.moved_le_size
    have h2 := hp.size_is_byte
    rw [bytesLeft] at hn
    show (s.fskPh.nbBytes + BitVec.ofNat 16 n).toNat ≤ s.fskPh.size.toNat
    rw [BitVec.toNat_add, BitVec.toNat_ofNat]
    omega

theorem drainFsk_evolves (hW : .dataBuf ∈ W) {n : Nat} (hn : n ≤ bytesLeft s) (hin : packetInBuffer n s = true) :
    Evolves W s (drainFsk n s) := by
  rw [drainFsk_eq]
  have hend := ((packetInBuffer_iff n s).1 hin).2
  exact (((after_control s n _).evolves.trans
    (memWrite_evolves hW (i := s.fskPh.nbBytes.toNat) (l := answersFrom s 0 n) (by
      rw [answersFrom_length]; exact hend)))).trans (withFskPh_evolves fun _ hp => hp.moved hn)

theorem refillFsk_evolves {n : Nat} (hn : n ≤ bytesLeft s) : Evolves W s (refillFsk n s) := by
  rw [refillFsk_eq]
  exact (after_control s _ _).evolves.trans (withFskPh_evolves fun _ hp => hp.moved hn)

/-- The FSK RSSI fits its range (R130, R190). -/
theorem fskRssi_range (v : Byte) :
    -127 ≤ (BitVec.ofInt 16 (fskRssi v)).toInt ∧ (BitVec.ofInt 16 (fskRssi v)).toInt ≤ 0 := by
  have hv := v.isLt
  rw [fskRssi, BitVec.toInt_ofInt_eq_self (by omega) (by omega) (by omega)]
  omega

theorem captureFskReadings_evolves (s : State) : Evolves W s (captureFskReadings s) := by
  rw [captureFskReadings_eq]
  exact (after_control s _ _).evolves.trans (withFskPh_evolves fun _ hp => { hp with
    gain_3_bits := by
      show ((answer s 3 >>> 5) &&& 0x07).toNat < 8
      rw [BitVec.toNat_and]
      exact Nat.lt_succ_of_le Nat.and_le_right
    rssi := fskRssi_range _ })

theorem fskDeliver_evolves (s : State) : Evolves W s (fskDeliver s) :=
  (((captureFskReadings_evolves s).control (fskRxEnd_control _)).control (emit_control _ _)).trans
    (clearFskPacketState_evolves _)

theorem snrOf_range (w : SnrWidth) (v : Byte) : -32 ≤ snrOf w v ∧ snrOf w v ≤ 31 := by
  have quarter {x : Int} (h : -128 ≤ x ∧ x ≤ 127) : -32 ≤ x.tdiv 4 ∧ x.tdiv 4 ≤ 31 := by
    rw [Int.tdiv_eq_ediv, show Int.sign 4 = 1 from rfl]
    split <;> omega
  cases w with
  | w8 => exact quarter ⟨v.le_toInt, Int.le_of_lt_add_one v.toInt_lt⟩
  | w4 =>
    have h1 := (v.setWidth 4).toInt_lt
    have h2 := (v.setWidth 4).le_toInt
    exact quarter (by omega)

theorem captureLoraReadings_evolves (s : State) : Evolves W s (captureLoraReadings s) := by
  rw [captureLoraReadings_eq]
  refine (after_control s _ _).evolves.trans (withLoraPh_evolves fun hq => { hq with snr := ?_ })
  have h := snrOf_range s.cfg.snrWidth (answer s 0)
  rw [BitVec.toInt_ofInt_eq_self (by omega) (by omega) (by omega)]
  exact h

theorem loraDrain_evolves (hW : .dataBuf ∈ W) {len : Byte} (h : len.toNat ≤ s.cfg.maxDataBufferSize) :
    Evolves W s (loraDrain len s) := by
  rw [loraDrain_eq]
  exact (after_control s _ _).evolves.trans (memWrite_evolves hW (i := 0) (l := answersFrom s 1 len.toNat) (by
    rw [answersFrom_length, Nat.zero_add]; exact h))

theorem loraDeliver_evolves (hW : .dataBuf ∈ W) {len : Byte} (h : len.toNat ≤ s.cfg.maxDataBufferSize) :
    Evolves W s (loraDeliver len s) := by
  have hsize : Evolves W s { s with loraPh := { s.loraPh with size := len } } :=
    withLoraPh_evolves fun hq => { hq with size_le_buffer := h }
  exact (((hsize.trans (loraDrain_evolves hW h)).control (loraRxEnd_control _)).control (emit_control _ _))

end Reception

end Sys2Proof.Machine

namespace Sys2Proof.Machine

/-! ### Every instruction -/

/-- What an instruction leads to: where it answers a next state, that state has the property. -/
def OnNext (P : State → Prop) : Result → Prop
  | .next t => P t
  | .fault _ => True
  | .refused _ => True

theorem OnNext.next {P : State → Prop} {o : Result} {t : State} (h : OnNext P o) (ho : o = .next t) : P t := by
  rw [ho] at h; exact h

theorem onNext_of {P : State → Prop} {o : Result} (h : ∀ t, o = .next t → P t) : OnNext P o := by
  cases o with
  | next t => exact h t rfl
  | fault _ => trivial
  | refused _ => trivial

/-- The owned fields each instruction writes (R17, R24, R27, R31, R33, R212, R227, R228). -/
def writes : Instr → List Owned
  | .initRadio _ => [.arming]
  | .lock | .unlock => [.lock]
  | .setChannel _ | .performCarrierSense _ _ _ _ | .setTxContinuousWave _ _ _ => [.channel]
  | .send _ _ | .receive | .dio0Irq | .dio1Irq => [.dataBuf]
  | .setPublicNetwork _ => [.network]
  | .getStatus | .sleep | .standby | .setRxConfig _ | .setTxConfig _ | .startCad | .setMaxPayloadLength _ _
  | .timeOnAir _ _ | .random | .checkRfFrequency _ | .dio2Irq | .dio3Irq | .dio4Irq | .dio5Irq | .timeoutIrq
  | .writeRegister _ _ | .writeRegisters _ _ | .readRegister _ | .readRegisters _ _ | .writeFifo _ | .readFifo _
  | .setOperationMode _ | .setModem _ | .radioReset | .transmit _ | .setAntennaSwitch _ | .antennaLowPower
  | .loadDefaultRegisters | .setRfTxPower _ | .fskBandwidthCode _ | .txPowerEncode _ _ | .fskTimeOnAir _ _ _ _ _ _
  | .loraTimeOnAir _ _ _ _ _ _ _ _ | .fskRxAbort => []

section Instructions

variable {W : List Owned} {s : State}

/-- The pulse leaves the reset pin released (R148). -/
theorem radioReset_evolves (s : State) : Evolves W s (radioReset s) := by
  rw [radioReset_eq]
  exact { Evolves.refl s with released := fun _ => rfl }

theorem execInitRadio_evolves (hW : .arming ∈ W) (c : Byte) (s : State) :
    OnNext (Evolves W s) (execInitRadio c s) := by
  have hcb : Evolves W s { s with cbSet := c.setWidth 7 } := { Evolves.refl s with arming := fun h => absurd hW h }
  have harm (u : State) : Evolves W u { u with irqArmed := true } :=
    { Evolves.refl u with arming := fun h => absurd hW h }
  have hidle (u : State) : Control u (goIdle (setModem .fsk (loadDefaultRegisters (setOperationMode .sleep u)))) :=
    (((setOperationMode_control u _).trans (loadDefaultRegisters_control _)).trans (setModem_control _ _)).trans
      (goIdle_control _)
  exact (((hcb.trans (radioReset_evolves _)).control (hidle _)).trans (harm _)).control (respond_control _ _)

theorem execSetRxConfig_evolves (a : RxConfigArgs) (s : State) : OnNext (Evolves W s) (execSetRxConfig a s) := by
  rw [execSetRxConfig]
  split
  · exact (((setModem_control s _).evolves.trans (storeRxConfig_evolves a _)).control (applySeq_control _ _)).control
      (respond_control _ _)
  · exact (raiseError_control s _).evolves

theorem execSend_evolves (hW : .dataBuf ∈ W) (n : Byte) (l : List Byte) (s : State) :
    OnNext (Evolves W s) (execSend n l s) := by
  rw [execSend]
  split
  next hfit =>
    obtain ⟨hlen, hin⟩ := hfit
    have hle : n.toNat ≤ s.cfg.maxDataBufferSize := by simpa [inBuffer] using hin
    have hmem : Evolves W s (memWrite 0 l s) := memWrite_evolves hW (by rw [hlen, Nat.zero_add]; exact hle)
    cases s.modem with
    | fsk =>
      refine onNext_of fun t ht => ?_
      cases hsend : sendFsk n (memWrite 0 l s) with
      | next u =>
        simp only [hsend, andThen] at ht
        obtain rfl := Host.Outcome.next.inj ht
        exact (hmem.trans (sendFsk_evolves hle hsend)).control (respond_control _ _)
      | fault r => simp only [hsend, andThen, reduceCtorEq] at ht
      | refused r => simp only [hsend, andThen, reduceCtorEq] at ht
    | lora => exact (hmem.trans (sendLora_evolves hle)).control (respond_control _ _)
  · exact (raiseError_control s _).evolves

theorem execReceive_evolves (hW : .dataBuf ∈ W) (s : State) : OnNext (Evolves W s) (execReceive s) := by
  have hprep : Evolves W s (receivePrepare s) := by
    rw [receivePrepare]
    cases s.modem with
    | fsk =>
      exact ((applySeq_control s _).evolves.trans (captureFifoThresh_evolves _)).trans
        (clearFskPacketState_evolves _)
    | lora => exact (applySeq_control s _).evolves
  exact (((hprep.trans (zeroBuffer_evolves hW _)).trans (startRx_evolves _)).control
    (setOperationMode_control _ _)).control (respond_control _ _)

theorem execStartCad_evolves (s : State) : OnNext (Evolves W s) (execStartCad s) := by
  rw [execStartCad]
  cases s.modem with
  | fsk => exact (respond_control s _).evolves
  | lora =>
    exact (((applySeq_control s _).trans (setOperationMode_control _ _)).evolves.trans (startCad_evolves _)).control
      (respond_control _ _)

theorem execSetTxContinuousWave_evolves (hW : .channel ∈ W) (f : Word) (p : Byte) (d : Half) (s : State) :
    OnNext (Evolves W s) (execSetTxContinuousWave f p d s) :=
  (((((setChannelOp_evolves hW f s).trans (setTxConfigOp_evolves _ _)).control (applySeq_control _ _)).trans
    (startTx_evolves _ _)).control (setOperationMode_control _ _)).control (respond_control _ _)

theorem execSetMaxPayloadLength_evolves (m : ModemKind) (v : Byte) (s : State) :
    OnNext (Evolves W s) (execSetMaxPayloadLength m v s) := by
  have hm := setModem_control s m
  cases m with
  | fsk =>
    simp only [execSetMaxPayloadLength]
    split
    · exact (hm.trans (respond_control _ _)).evolves
    · exact ((hm.trans (regWrite_control _ _ _)).trans (respond_control _ _)).evolves
  | lora => exact ((hm.trans (regWrite_control _ _ _)).trans (respond_control _ _)).evolves

theorem execPerformCarrierSense_evolves (hW : .channel ∈ W) (m : ModemKind) (f : Word) (th : Half) (d : Word)
    (s : State) : OnNext (Evolves W s) (execPerformCarrierSense m f th d s) := by
  have hdraw (n : Nat) (u : State) : Evolves W u (drawPolls n u).2 := { Evolves.refl u with cfg := rfl }
  exact (((((((setModem_control s m).evolves.trans (setChannelOp_evolves hW f _)).control
    (setOperationMode_control _ _)).control (wait_control _ _)).trans (hdraw _ _)).control
    (senseLoop_control _ _ _ _)).control (sleepOp_control _)).control (respond_control _ _)

theorem execTimeOnAir_evolves (m : ModemKind) (l : Byte) (s : State) :
    OnNext (Evolves W s) (execTimeOnAir m l s) := by
  cases m with
  | fsk => exact (timeOnAirFsk_control s l).evolves
  | lora => exact (timeOnAirLora_control s l).evolves

theorem execRandom_evolves (s : State) : OnNext (Evolves W s) (execRandom s) :=
  ((((((setModem_control s _).trans (regWrite_control _ _ _)).trans (setOperationMode_control _ _)).trans
    (randomLoop_control _ _ _)).trans (sleepOp_control _)).trans (respond_control _ _)).evolves

theorem withLock_evolves (hW : .lock ∈ W) (n : Byte) (s : State) : Evolves W s { s with lock := n } where
  __ := Evolves.refl s
  lock hn := absurd hW hn

theorem execLock_evolves (hW : .lock ∈ W) (s : State) : OnNext (Evolves W s) (execLock s) := by
  rw [execLock]
  split
  · exact (raiseError_control s _).evolves
  · exact (withLock_evolves hW _ s).control (respond_control _ _)

theorem execUnlock_evolves (hW : .lock ∈ W) (s : State) : OnNext (Evolves W s) (execUnlock s) := by
  rw [execUnlock]
  split
  · exact (raiseError_control s _).evolves
  · exact (withLock_evolves hW _ s).control (respond_control _ _)

/-! ### The handlers -/

theorem fskComplete_evolves (hW : .dataBuf ∈ W) (s : State) : OnNext (Evolves W s) (fskComplete s) := by
  have hx := fskExtractLength_evolves (W := W) s
  rw [fskComplete]
  split
  · split
    next hin => exact (hx.trans (drainFsk_evolves hW (Nat.le_refl _) hin)).trans (fskDeliver_evolves _)
    · trivial
  · exact hx

theorem dio0RxFsk_evolves (hW : .dataBuf ∈ W) (s : State) : OnNext (Evolves W s) (dio0RxFsk s) := by
  have hr := (regRead_control s s.cfg.regmap.irqFlags2).evolves (W := W)
  rw [dio0RxFsk]
  dsimp only
  split
  · split
    · exact onNext_of fun t ht => hr.trans ((fskComplete_evolves hW _).next ht)
    · exact hr.trans (fskRxAbort_evolves _)
  · exact fskComplete_evolves hW s

theorem dio0RxLora_evolves (hW : .dataBuf ∈ W) (s : State) : Evolves W s (dio0RxLora s) := by
  have hflags := (regWrite_control s s.cfg.regmap.lrIrqFlags s.cfg.regmap.lrRxDone).trans
    (regRead_control _ s.cfg.regmap.lrIrqFlags)
  rw [dio0RxLora]
  dsimp only
  split
  · exact (((hflags.trans (regWrite_control _ _ _)).trans (loraRxEnd_control _)).trans (emit_control _ _)).evolves
  · have hlen := (hflags.evolves.trans (captureLoraReadings_evolves (W := W) _)).control
      (regRead_control _ s.cfg.regmap.lrRxNbBytes)
    split
    · exact (hlen.control (loraRxEnd_control _)).control (emit_control _ _)
    next hle => exact hlen.trans (loraDeliver_evolves hW (by rw [hlen.cfg]; omega))

/-- The end of a transmission cancels the timer and goes `Idle` (R192). -/
theorem dio0Tx_evolves (s : State) : Evolves W s (dio0Tx s) := by
  have hidle : Timed .idle .disarmed := ⟨fun _ => rfl, nofun⟩
  rw [dio0Tx]
  cases s.modem with
  | fsk =>
    have h : Evolves W s { timerCancel s with state := .idle } := { Evolves.refl s with timing := .inr hidle }
    exact h.control (emit_control _ _)
  | lora =>
    have h : Evolves W s { regWrite s.cfg.regmap.lrIrqFlags s.cfg.regmap.lrTxDone (timerCancel s) with
      state := .idle } := { Evolves.refl s with timing := .inr hidle }
    exact h.control (emit_control _ _)

theorem execDio0Irq_evolves (hW : .dataBuf ∈ W) (s : State) : OnNext (Evolves W s) (execDio0Irq s) := by
  rw [execDio0Irq]
  split
  · exact dio0RxFsk_evolves hW s
  · exact dio0RxLora_evolves hW s
  · exact dio0Tx_evolves s
  · exact .refl s
  · exact .refl s

theorem dio1RxFsk_evolves (hW : .dataBuf ∈ W) (s : State) : OnNext (Evolves W s) (dio1RxFsk s) := by
  have hx := fskExtractLength_evolves (W := W) s
  rw [dio1RxFsk]
  dsimp only
  split
  · split
    next hin => exact hx.trans (drainFsk_evolves hW (Nat.min_le_left _ _) hin)
    · trivial
  · exact hx

theorem dio1TxFsk_evolves (s : State) : OnNext (Evolves W s) (dio1TxFsk s) := by
  rw [dio1TxFsk]
  split
  · exact refillFsk_evolves (Nat.min_le_left _ _)
  · trivial

theorem dio1RxLora_control (s : State) : Control s (dio1RxLora s) :=
  ((regWrite_control s _ _).trans (goIdle_control _)).trans (emit_control _ _)

theorem execDio1Irq_evolves (hW : .dataBuf ∈ W) (s : State) : OnNext (Evolves W s) (execDio1Irq s) := by
  rw [execDio1Irq]
  split
  · exact dio1RxFsk_evolves hW s
  · exact dio1TxFsk_evolves s
  · exact (dio1RxLora_control s).evolves
  · exact .refl s
  · exact .refl s
  · exact .refl s

theorem dio2RxFsk_evolves (s : State) : Evolves W s (dio2RxFsk s) :=
  (((clearFskPacketState_evolves s).control (applySeq_control _ _)).control (fskRxEnd_control _)).control
    (emit_control _ _)

theorem dio2Lora_control (s : State) : Control s (dio2Lora s) := by
  rw [dio2Lora]
  split
  · exact ((regWrite_control s _ _).trans (regRead_control _ _)).trans (emit_control _ _)
  · exact .refl s

theorem execDio2Irq_evolves (s : State) : OnNext (Evolves W s) (execDio2Irq s) := by
  rw [execDio2Irq]
  split
  · exact dio2RxFsk_evolves s
  · exact (dio2Lora_control s).evolves
  · exact (dio2Lora_control s).evolves
  · exact .refl s
  · exact .refl s
  · exact .refl s

theorem dio3Lora_control (s : State) : Control s (dio3Lora s) := by
  have hflags (v : Byte) := (regRead_control s s.cfg.regmap.lrIrqFlags).trans
    (regWrite_control _ s.cfg.regmap.lrIrqFlags v)
  rw [dio3Lora]
  refine .trans ?_ (emit_control _ _)
  cases s.state with
  | cad => exact (hflags _).trans (goIdle_control _)
  | idle | rxRunning | txRunning => exact hflags _

theorem execDio3Irq_evolves (s : State) : OnNext (Evolves W s) (execDio3Irq s) := by
  rw [execDio3Irq]
  cases s.modem with
  | fsk => exact .refl s
  | lora => exact (dio3Lora_control s).evolves

theorem execDio4Irq_evolves (s : State) : OnNext (Evolves W s) (execDio4Irq s) := by
  rw [execDio4Irq]
  cases s.modem with
  | fsk => exact latchPreamble_evolves s
  | lora => exact .refl s

/-- The recovery cancels the timer before anything else, so mode control keeps it disarmed, and the public-network
setting is written back as it was (R199). -/
theorem timeoutRecovery_evolves (s : State) : Evolves W s (timeoutRecovery s) := by
  have hc := ((((setOperationMode_control (timerCancel s) .sleep).trans (loadDefaultRegisters_control _)).trans
    (setModem_control _ .fsk)).trans (setModem_control _ .lora))
  have hd : _ = Timer.disarmed := hc.disarmed rfl
  have hl := hc.lora
  rw [timeoutRecovery]
  refine Evolves.control ?_ (emit_control _ _)
  simp only [setPublicNetworkOp]
  generalize setModem .lora _ = t at hc hd hl
  obtain ⟨hf, hg, -⟩ := hc
  obtain ⟨m, st, tm, g, n, ev, rfl⟩ := hf
  exact { Evolves.refl s with lines := hg, timing := .inr ⟨fun _ => hd, nofun⟩ }

theorem execTimeoutIrq_evolves (s : State) : OnNext (Evolves W s) (execTimeoutIrq s) := by
  rw [execTimeoutIrq]
  cases s.state with
  | txRunning => exact timeoutRecovery_evolves s
  | idle | rxRunning | cad => exact .refl s

end Instructions

/-- Every instruction keeps what `Evolves` says, and writes the owned fields of `writes` alone. -/
theorem exec_evolves (i : Instr) (s : State) : OnNext (Evolves (writes i) s) (exec i s) := by
  cases i with
  | initRadio c => exact execInitRadio_evolves List.mem_cons_self c s
  | setChannel f => exact (setChannelOp_evolves List.mem_cons_self f s).control (respond_control _ _)
  | getStatus => exact (respond_control s _).evolves
  | sleep => exact ((sleepOp_control s).trans (respond_control _ _)).evolves
  | standby => exact ((standbyOp_control s).trans (respond_control _ _)).evolves
  | setRxConfig a => exact execSetRxConfig_evolves a s
  | setTxConfig a => exact (setTxConfigOp_evolves a s).control (respond_control _ _)
  | send n l => exact execSend_evolves List.mem_cons_self n l s
  | receive => exact execReceive_evolves List.mem_cons_self s
  | startCad => exact execStartCad_evolves s
  | setTxContinuousWave f p d => exact execSetTxContinuousWave_evolves List.mem_cons_self f p d s
  | setMaxPayloadLength m v => exact execSetMaxPayloadLength_evolves m v s
  | setPublicNetwork e => exact (setPublicNetworkOp_evolves List.mem_cons_self e s).control (respond_control _ _)
  | performCarrierSense m f th d => exact execPerformCarrierSense_evolves List.mem_cons_self m f th d s
  | timeOnAir m l => exact execTimeOnAir_evolves m l s
  | random => exact execRandom_evolves s
  | checkRfFrequency f => exact (respond_control s _).evolves
  | lock => exact execLock_evolves List.mem_cons_self s
  | unlock => exact execUnlock_evolves List.mem_cons_self s
  | dio0Irq => exact execDio0Irq_evolves List.mem_cons_self s
  | dio1Irq => exact execDio1Irq_evolves List.mem_cons_self s
  | dio2Irq => exact execDio2Irq_evolves s
  | dio3Irq => exact execDio3Irq_evolves s
  | dio4Irq => exact execDio4Irq_evolves s
  | dio5Irq => exact .refl s
  | timeoutIrq => exact execTimeoutIrq_evolves s
  | writeRegister a v => exact (regWrite_control s a v).evolves
  | writeRegisters a l => exact (regWriteBurst_control s a l).evolves
  | readRegister a => exact (regRead_control s a).evolves.trans (returns_evolves _ _)
  | readRegisters a n => exact (regReadBurst_control s a n).evolves.trans (returns_evolves _ _)
  | writeFifo l => exact (fifoWrite_control s l).evolves
  | readFifo n => exact (fifoRead_control s n).evolves.trans (returns_evolves _ _)
  | setOperationMode m => exact (setOperationMode_control s m).evolves
  | setModem k => exact (setModem_control s k).evolves
  | radioReset => exact radioReset_evolves s
  | transmit ms => exact transmit_evolves ms s
  | setAntennaSwitch m => exact (setAntennaSwitch_control s m).evolves
  | antennaLowPower => exact (antennaLowPower_control s).evolves
  | loadDefaultRegisters => exact (loadDefaultRegisters_control s).evolves
  | setRfTxPower p => exact (setRfTxPower_control s p).evolves
  | fskBandwidthCode bw => exact returns_evolves _ s
  | txPowerEncode p path => exact returns_evolves _ s
  | fskTimeOnAir a b c d e r => exact returns_evolves _ s
  | loraTimeOnAir bw sf cr pre len crc fix ldro => exact returns_evolves _ s
  | fskRxAbort => exact fskRxAbort_evolves s

end Sys2Proof.Machine

namespace Sys2Proof.Machine

/-! ### What is read off `Evolves` -/

theorem exec_evolves_of_next {i : Instr} {s t : State} (h : exec i s = .next t) : Evolves (writes i) s t :=
  (exec_evolves i s).next h

/-- No instruction writes the pending register, the worker's phase or the schedule (`edgesDoNotInterfere`). -/
theorem exec_latches {i : Instr} {s t : State} (h : exec i s = .next t) :
    t.pending = s.pending ∧ t.worker = s.worker ∧ t.inputs = s.inputs := by
  have hc := edgesDoNotInterfere i s s.pending s.worker s.inputs
  rw [show s.relatch s.pending s.worker s.inputs = s from rfl, h, mapNext_next] at hc
  have ht := Host.Outcome.next.inj hc
  exact ⟨(congrArg State.pending ht :), (congrArg State.worker ht :), (congrArg State.inputs ht :)⟩

/-- The instructions the rules name as the writers of a field (R17, R24, R27, R31, R33, R212, R227, R228). -/
def Owned.Writer (i : Instr) : Owned → Prop
  | .arming => ∃ c, i = .initRadio c
  | .lock => i = .lock ∨ i = .unlock
  | .channel => (∃ f, i = .setChannel f) ∨ (∃ m f r d, i = .performCarrierSense m f r d) ∨
      ∃ f p d, i = .setTxContinuousWave f p d
  | .dataBuf => (∃ n b, i = .send n b) ∨ i = .receive ∨ i = .dio0Irq ∨ i = .dio1Irq
  | .network => ∃ e, i = .setPublicNetwork e

theorem writer_of_mem_writes {i : Instr} {f : Owned} (h : f ∈ writes i) : f.Writer i := by
  cases i <;> simp [writes] at h <;> simp [h, Owned.Writer]

end Sys2Proof.Machine

section

open Sys2Proof Sys2Proof.Machine

/-- Settles O26: the table `writes` names each field's writers, and `exec_evolves` says there are no others. -/
theorem fieldOwners : Obligations.FieldOwners := by
  intro i s t h
  have he := exec_evolves_of_next h
  refine ⟨he.cfg, (exec_latches h).2.2, he.released, ?arming, ?lock, ?channel, ?dataBuf, ?network⟩
  case arming =>
    intro hi
    exact he.arming fun hw => (writer_of_mem_writes hw).elim hi
  case lock =>
    intro hl hu
    exact he.lock fun hw => (writer_of_mem_writes hw).elim hl hu
  case channel =>
    intro hc hp hw
    refine he.channel fun hm => ?_
    obtain ⟨f, rfl⟩ | ⟨m, f, r, d, rfl⟩ | ⟨f, p, d, rfl⟩ := writer_of_mem_writes hm
    · exact hc f rfl
    · exact hp m f r d rfl
    · exact hw f p d rfl
  case dataBuf =>
    intro hs hr h0 h1
    refine he.dataBuf fun hm => ?_
    obtain ⟨n, b, rfl⟩ | hi | hi | hi := writer_of_mem_writes hm
    · exact hs n b rfl
    · exact hr hi
    · exact h0 hi
    · exact h1 hi
  case network =>
    intro hi
    exact he.network fun hw => (writer_of_mem_writes hw).elim hi

end

namespace Sys2Proof.Machine

/-! ### Batches -/

/-- What every instruction keeps, a batch keeps. -/
theorem runHandlers_keeps {P : State → Prop} (hP : ∀ i s t, P s → exec i s = .next t → P t) {l : List Instr}
    {s t : State} (hs : P s) (h : runHandlers l s = .next t) : P t := by
  induction l generalizing s with
  | nil => exact Host.Outcome.next.inj h ▸ hs
  | cons i l ih =>
    rw [runHandlers] at h
    cases hi : exec i s with
    | next u => rw [hi] at h; exact ih (hP i s u hs hi) h
    | fault r => rw [hi] at h; exact nomatch h
    | refused r => rw [hi] at h; exact nomatch h

theorem runHandlers_append (l l' : List Instr) (s : State) :
    runHandlers (l ++ l') s = andThen (runHandlers l s) (runHandlers l') := by
  induction l generalizing s with
  | nil => rfl
  | cons i l ih =>
    rw [List.cons_append, runHandlers, runHandlers]
    cases exec i s with
    | next u => exact ih u
    | fault r => rfl
    | refused r => rfl

theorem andThen_next {o : Result} {f : State → Result} {t : State} (h : andThen o f = .next t) :
    ∃ u, o = .next u ∧ f u = .next t := by
  cases o with
  | next u => exact ⟨u, rfl, h⟩
  | fault r => exact nomatch h
  | refused r => exact nomatch h

/-- The worker's batch step runs its batch and waits again, or is skipped (R245). -/
theorem runBatch_next {s t : State} (h : runBatch s = .next t) :
    (∃ b u, s.worker = .holding b ∧ runHandlers (decodeBatch b) s = .next u ∧ t = endBatch u) ∨ t = s := by
  rw [runBatch, heldBatch] at h
  cases hw : s.worker with
  | waiting =>
    rw [hw] at h
    exact .inr (Host.Outcome.next.inj h).symm
  | holding b =>
    rw [hw] at h
    dsimp only at h
    split at h
    next b' hb =>
      obtain rfl : b = b' := by
        split at hb
        · exact Option.some.inj hb
        · exact nomatch hb
      obtain ⟨u, hu, ht⟩ := andThen_next h
      exact .inl ⟨b, u, rfl, hu, (Host.Outcome.next.inj ht).symm⟩
    · exact .inr (Host.Outcome.next.inj h).symm

theorem directBatch_some {s : State} {b : EventVec} (h : directBatch s = some b) : b = s.pending := by
  rw [directBatch] at h
  split at h
  · exact (Option.some.inj h).symm
  · exact nomatch h

/-- The dispatch step runs the pending batch, or is skipped (R250). -/
theorem dispatchBatch_next {s t : State} (h : dispatchBatch s = .next t) :
    runHandlers (decodeBatch s.pending) { s with pending := 0 } = .next t ∨ t = s := by
  rw [dispatchBatch] at h
  split at h
  next b hb => exact .inl (directBatch_some hb ▸ h)
  · exact .inr (Host.Outcome.next.inj h).symm

theorem dispatchBatchExpiring_next {s t : State} (h : dispatchBatchExpiring s = .next t) :
    runHandlers (decodeBatch s.pending) (expire { s with pending := 0 }) = .next t ∨ t = s := by
  rw [dispatchBatchExpiring] at h
  split at h
  next b hb => exact .inl (directBatch_some hb ▸ h)
  · exact .inr (Host.Outcome.next.inj h).symm

/-- A frame runs an instruction or is refused with a response alone (R94). -/
theorem runFrame_next {f : List Byte} {s t : State} (h : runFrame f s = .next t) :
    (∃ i, exec i s = .next t) ∨ t = raiseError .refused s := by
  rw [runFrame] at h
  split at h
  · exact .inl ⟨_, h⟩
  · exact .inr (Host.Outcome.next.inj h).symm

theorem runCall_next {d : Decoded} {s t : State} (h : runCall d s = .next t) : ∃ i, exec i s = .next t := by
  cases d with
  | ok i => exact ⟨i, h⟩
  | rejected e => exact nomatch h

/-! ### The invariant -/

theorem Inv.of_evolves {W : List Owned} {s t : State} (hs : Inv s) (h : Evolves W s t) (hw : t.worker = s.worker) :
    Inv t := by
  obtain ⟨hc, hb, hf, hl, hi, ⟨hp, ht⟩, hr, hn⟩ := (inv_iff s).1 hs
  refine (inv_iff t).2 ⟨h.cfg ▸ hc, h.buffer hb, h.fskPh hc hf, h.loraPh hl, ?idle, ⟨?pa, h.lines.1.trans ht⟩,
    h.released hr, by rw [h.cfg, hw]; exact hn⟩
  case idle =>
    obtain ⟨hst, htm⟩ | ⟨hidle, -⟩ := h.timing
    · rw [hst, htm]; exact hi
    · exact hidle
  case pa => exact Bool.eq_false_iff.2 fun hpa => absurd (h.lines.2 hpa) (by rw [hp]; decide)

theorem exec_inv {i : Instr} {s t : State} (hs : Inv s) (h : exec i s = .next t) : Inv t :=
  hs.of_evolves (exec_evolves_of_next h) (exec_latches h).2.1

theorem runHandlers_inv {l : List Instr} {s t : State} (hs : Inv s) (h : runHandlers l s = .next t) : Inv t :=
  runHandlers_keeps (fun _ _ _ => exec_inv) hs h

/-- The schedule and the pending register are no part of the invariant. -/
theorem Inv.relatched {s : State} (h : Inv s) (p : EventVec) (x : List Stimulus) : Inv (s.relatch p s.worker x) :=
  h.of_evolves (W := []) (t := s.relatch p s.worker x) { Evolves.refl s with cfg := rfl } rfl

theorem endBatch_inv {s : State} (h : Inv s) : Inv (endBatch s) := { h with no_worker := fun _ => rfl }

theorem expire_inv {s : State} (h : Inv s) : Inv (expire s) := by
  rw [expire]
  cases s.timer with
  | disarmed => exact h
  | armed ms => exact { h with idle_disarmed := fun _ => rfl }

theorem latchEdge_inv {s : State} (h : Inv s) (line : Fin 6) : Inv (latchEdge line s) := by
  rw [latchEdge]
  split
  · exact h.relatched _ s.inputs
  · exact h

/-- A batch is taken only where there is a worker (R244). -/
theorem wake_inv {s : State} (h : Inv s) : Inv (wake s) := by
  rw [wake]
  split
  next hw =>
    have hpresent : s.cfg.workerPresent = true := by
      simp only [wakeEnabled, Bool.and_eq_true] at hw
      exact hw.1.1
    exact { h with no_worker := fun hn => absurd (hpresent.symm.trans hn) nofun }
  · exact h

theorem runStimulus_inv {x : Stimulus} {s t : State} (hs : Inv s) (h : runStimulus x s = .next t) : Inv t := by
  cases x with
  | frame f =>
    obtain ⟨i, hi⟩ | rfl := runFrame_next h
    · exact exec_inv hs hi
    · exact hs.of_evolves (raiseError_control s _).evolves (W := []) rfl
  | edge line => exact Host.Outcome.next.inj h ▸ latchEdge_inv hs line
  | expire => exact Host.Outcome.next.inj h ▸ expire_inv hs
  | wake => exact Host.Outcome.next.inj h ▸ wake_inv hs
  | run =>
    obtain ⟨b, u, -, hu, rfl⟩ | rfl := runBatch_next h
    · exact endBatch_inv (runHandlers_inv hs hu)
    · exact hs
  | dispatch =>
    obtain hr | rfl := dispatchBatch_next h
    · exact runHandlers_inv (hs.relatched 0 s.inputs) hr
    · exact hs
  | dispatchExpiring =>
    obtain hr | rfl := dispatchBatchExpiring_next h
    · exact runHandlers_inv (expire_inv (hs.relatched 0 s.inputs)) hr
    · exact hs
  | bus f =>
    obtain ⟨i, hi⟩ := runCall_next h
    exact exec_inv hs hi
  | micro f =>
    obtain ⟨i, hi⟩ := runCall_next h
    exact exec_inv hs hi

/-- A step is the next scheduled one, the schedule moved on; with nothing scheduled nothing happens. -/
theorem step_next {s t : State} (h : step s = .next t) :
    t = s ∨ ∃ x rest, s.inputs = x :: rest ∧ runStimulus x { s with inputs := rest } = .next t := by
  rw [step] at h
  split at h
  · exact .inl (Host.Outcome.next.inj h).symm
  next x rest hx => exact .inr ⟨x, rest, hx, h⟩

end Sys2Proof.Machine

section

open Sys2Proof Sys2Proof.Machine

/-- Settles O20: the schedule is no part of `Inv`, and each agent's step keeps it. -/
theorem stepKeepsInv : Obligations.StepKeepsInv := by
  intro s t hs h
  obtain rfl | ⟨x, rest, -, hx⟩ := step_next h
  · exact hs
  · exact runStimulus_inv (hs.relatched s.pending rest) hx

end

namespace Sys2Proof.Machine

/-! ### A transmission is watched -/

/-- The watch depends on four fields: state, timer, pending register, worker. -/
theorem txWatched_congr {s t : State} (hs : TxWatched s) (hst : t.state = s.state) (htm : t.timer = s.timer)
    (hp : t.pending = s.pending) (hw : t.worker = s.worker) : TxWatched t := by
  rw [TxWatched, timeoutComing, hst, htm, hp, hw]
  exact hs

theorem exec_txWatched {i : Instr} {s t : State} (hs : TxWatched s) (h : exec i s = .next t) : TxWatched t := by
  obtain ⟨hp, hw, -⟩ := exec_latches h
  obtain ⟨hst, htm⟩ | ⟨-, htx⟩ := (exec_evolves_of_next h).timing
  · exact txWatched_congr hs hst htm hp hw
  · exact fun htr => .inl (htx htr)

theorem runHandlers_txWatched {l : List Instr} {s t : State} (hs : TxWatched s) (h : runHandlers l s = .next t) :
    TxWatched t :=
  runHandlers_keeps (fun _ _ _ => exec_txWatched) hs h

/-- Serving the timeout ends a transmission (R199). -/
theorem timeoutIrq_ends {s t : State} (h : exec .timeoutIrq s = .next t) : t.state ≠ .txRunning := by
  have h' : execTimeoutIrq s = .next t := h
  rw [execTimeoutIrq] at h'
  cases hs : s.state with
  | txRunning =>
    rw [hs] at h'
    obtain rfl := Host.Outcome.next.inj h'
    rw [timeoutRecovery, emit_eq]
    exact nofun
  | idle | rxRunning | cad =>
    rw [hs] at h'
    obtain rfl := Host.Outcome.next.inj h'
    rw [hs]
    exact nofun

/-- The timeout is the last handler of a batch that holds it (R91). -/
theorem decodeBatch_timeout {b : EventVec} (h : b.getLsbD 6 = true) : ∃ l, decodeBatch b = l ++ [.timeoutIrq] := by
  refine ⟨(List.range 6).filterMap (fun i => if b.getLsbD i then handlerOf i else none), ?_⟩
  rw [decodeBatch, List.range_succ, List.filterMap_append]
  simp only [List.filterMap_cons, List.filterMap_nil, h, if_true, handlerOf]

theorem runHandlers_timeout_ends {b : EventVec} {s t : State} (hb : b.getLsbD 6 = true)
    (h : runHandlers (decodeBatch b) s = .next t) : t.state ≠ .txRunning := by
  obtain ⟨l, hl⟩ := decodeBatch_timeout hb
  rw [hl, runHandlers_append] at h
  obtain ⟨u, -, hu⟩ := andThen_next h
  obtain ⟨v, hv, ht⟩ := andThen_next hu
  exact Host.Outcome.next.inj ht ▸ timeoutIrq_ends hv

/-- The batch step: a timeout it holds is served, one it does not hold is still where it was. -/
theorem runBatch_txWatched {s t : State} (hs : TxWatched s) (h : runBatch s = .next t) : TxWatched t := by
  obtain ⟨b, u, hb, hu, rfl⟩ | rfl := runBatch_next h
  case inr => exact hs
  by_cases h6 : b.getLsbD 6 = true
  · have hend : u.state ≠ .txRunning := runHandlers_timeout_ends h6 hu
    exact fun htx => absurd htx hend
  · have hw : u.worker = .holding b :=
      runHandlers_keeps (P := fun v => v.worker = .holding b) (fun _ _ _ hv hi => (exec_latches hi).2.1.trans hv) hb hu
    intro htx
    refine (runHandlers_txWatched hs hu htx).imp_right fun hcoming => ?_
    obtain hp | ⟨b', hb', h6'⟩ := hcoming
    · exact .inl hp
    · obtain rfl := Worker.holding.inj (hw.symm.trans hb')
      exact absurd h6' h6

/-- Taking a batch without the timeout leaves the watch as it was. -/
theorem txWatched_taken {s : State} (hs : TxWatched s) (h6 : ¬ s.pending.getLsbD 6 = true) :
    TxWatched { s with pending := 0 } := fun htx =>
  (hs htx).imp_right fun hcoming => .inr (hcoming.resolve_left h6)

/-- The expiry turns an armed timer into a pending timeout (R247). -/
theorem expire_txWatched {s : State} (hs : TxWatched s) : TxWatched (expire s) := by
  rw [expire]
  cases htm : s.timer with
  | disarmed => exact hs
  | armed ms =>
    refine fun _ => .inr (.inl ?_)
    rw [setPending_pending, BitVec.getLsbD_or]
    exact Bool.or_true _

theorem latchEdge_txWatched {s : State} (hs : TxWatched s) (line : Fin 6) : TxWatched (latchEdge line s) := by
  rw [latchEdge]
  split
  · refine fun htx => (hs htx).imp_right fun hcoming => hcoming.imp_left fun hp => ?_
    rw [setPending_pending, BitVec.getLsbD_or, hp, Bool.true_or]
  · exact hs

/-- The take moves a pending timeout into the held batch (R244). -/
theorem wake_txWatched {s : State} (hs : TxWatched s) : TxWatched (wake s) := by
  rw [wake]
  split
  next hw =>
    have hwaiting : s.worker = .waiting := by
      simp only [wakeEnabled, Bool.and_eq_true, beq_iff_eq] at hw
      exact hw.1.2
    refine fun htx => (hs htx).imp_right fun hcoming => .inr ⟨s.pending, rfl, ?_⟩
    obtain hp | ⟨b, hb, -⟩ := hcoming
    · exact hp
    · exact absurd (hwaiting.symm.trans hb) nofun
  · exact hs

theorem runStimulus_txWatched {x : Stimulus} {s t : State} (hs : TxWatched s) (h : runStimulus x s = .next t) :
    TxWatched t := by
  cases x with
  | frame f =>
    obtain ⟨i, hi⟩ | rfl := runFrame_next h
    · exact exec_txWatched hs hi
    · exact txWatched_congr hs rfl rfl rfl rfl
  | edge line => exact Host.Outcome.next.inj h ▸ latchEdge_txWatched hs line
  | expire => exact Host.Outcome.next.inj h ▸ expire_txWatched hs
  | wake => exact Host.Outcome.next.inj h ▸ wake_txWatched hs
  | run => exact runBatch_txWatched hs h
  | dispatch =>
    obtain hr | rfl := dispatchBatch_next h
    · by_cases h6 : s.pending.getLsbD 6 = true
      · exact fun htx => absurd htx (runHandlers_timeout_ends h6 hr)
      · exact runHandlers_txWatched (txWatched_taken hs h6) hr
    · exact hs
  | dispatchExpiring =>
    obtain hr | rfl := dispatchBatchExpiring_next h
    · by_cases h6 : s.pending.getLsbD 6 = true
      · exact fun htx => absurd htx (runHandlers_timeout_ends h6 hr)
      · exact runHandlers_txWatched (expire_txWatched (txWatched_taken hs h6)) hr
    · exact hs
  | bus f =>
    obtain ⟨i, hi⟩ := runCall_next h
    exact exec_txWatched hs hi
  | micro f =>
    obtain ⟨i, hi⟩ := runCall_next h
    exact exec_txWatched hs hi

end Sys2Proof.Machine

section

open Sys2Proof Sys2Proof.Machine

/-- Settles O22: an instruction that stays in `TxRunning` leaves the timer, one that enters it arms it; the timeout moves
from the timer to the pending register to the held batch, and serving it ends the transmission. -/
theorem txStaysWatched : Obligations.TxStaysWatched := by
  intro s t hs h
  obtain rfl | ⟨x, rest, -, hx⟩ := step_next h
  · exact hs
  · have hrest : TxWatched { s with inputs := rest } := txWatched_congr hs rfl rfl rfl rfl
    exact runStimulus_txWatched hrest hx

end

/-! The history is read by no instruction (R34). `State.recall` gives a state a longer past. Unlike a field replaced by
`State.relatch` the history is written by nearly every operation, so the one fact all rests on is that appending events
commutes with it (`after_recall`); an operation is brought to that by its closed form or by the operations in it. -/

namespace Sys2Proof.Machine

/-- `s` with a longer past. -/
def State.recall (s : State) (past : List Event) : State := { s with hist := past ++ s.hist }

section Recall

variable (past : List Event) (s : State)

/-! ### What a longer past leaves unchanged -/

@[simp] theorem State.recall_cfg : (s.recall past).cfg = s.cfg := rfl
@[simp] theorem State.recall_state : (s.recall past).state = s.state := rfl
@[simp] theorem State.recall_modem : (s.recall past).modem = s.modem := rfl
@[simp] theorem State.recall_fsk : (s.recall past).fsk = s.fsk := rfl
@[simp] theorem State.recall_lora : (s.recall past).lora = s.lora := rfl
@[simp] theorem State.recall_fskPh : (s.recall past).fskPh = s.fskPh := rfl
@[simp] theorem State.recall_lock : (s.recall past).lock = s.lock := rfl

@[simp] theorem memRead_recall (i n : Nat) : memRead i n (s.recall past) = memRead i n s := rfl
@[simp] theorem inBuffer_recall (i n : Nat) : inBuffer i n (s.recall past) = inBuffer i n s := rfl
@[simp] theorem configWrites_recall (c : ConfigSource) (m : ModemKind) :
    configWrites c m (s.recall past) = configWrites c m s := rfl
@[simp] theorem txConfigWrites_recall (m : ModemKind) :
    txConfigWrites m (s.recall past) = txConfigWrites m s := rfl
@[simp] theorem rxConfigValid_recall (a : RxConfigArgs) :
    rxConfigValid a (s.recall past) = rxConfigValid a s := rfl
@[simp] theorem receiveMode_recall : receiveMode (s.recall past) = receiveMode s := rfl
@[simp] theorem packetInBuffer_recall (n : Nat) : packetInBuffer n (s.recall past) = packetInBuffer n s := rfl
@[simp] theorem bytesLeft_recall : bytesLeft (s.recall past) = bytesLeft s := rfl

/-! ### Updates, branches and outcomes -/

theorem recall_withState (v : RadioState) :
    { s.recall past with state := v } = ({ s with state := v } : State).recall past := rfl
theorem recall_withFskPh (v : FskPacket) :
    { s.recall past with fskPh := v } = ({ s with fskPh := v } : State).recall past := rfl
theorem recall_withLoraPh (v : LoraPacket) :
    { s.recall past with loraPh := v } = ({ s with loraPh := v } : State).recall past := rfl
theorem recall_withCbSet (v : EventVec) :
    { s.recall past with cbSet := v } = ({ s with cbSet := v } : State).recall past := rfl

@[simp] theorem recall_ite (c : Prop) [Decidable c] (a b : State) :
    (if c then a else b).recall past = if c then a.recall past else b.recall past :=
  apply_ite (State.recall · past) c a b

variable {s} in
theorem next_recall {t : State} (h : t = s.recall past) :
    Host.Outcome.next t = mapNext (State.recall · past) (.next s) := congrArg Host.Outcome.next h

/-! ### The shared operations (Machine/Ops, Flags, Calc) -/

@[simp] theorem after_recall (n : Nat) (l : List Event) :
    (s.recall past).after n l = (s.after n l).recall past := by
  simp only [State.after, State.recall, List.append_assoc]

@[simp] theorem memWrite_recall (i : Nat) (v : List Byte) :
    memWrite i v (s.recall past) = (memWrite i v s).recall past := rfl
@[simp] theorem zeroBuffer_recall : zeroBuffer (s.recall past) = (zeroBuffer s).recall past := rfl
@[simp] theorem clearFskPacketState_recall :
    clearFskPacketState (s.recall past) = (clearFskPacketState s).recall past := rfl
@[simp] theorem wait_recall (n : Nat) : wait n (s.recall past) = (wait n s).recall past :=
  after_recall past s 0 [.wait n]
@[simp] theorem respond_recall (l : List Byte) : respond l (s.recall past) = (respond l s).recall past :=
  after_recall past s 0 [okResponse l]
@[simp] theorem raiseError_recall (e : Status) :
    raiseError e (s.recall past) = (raiseError e s).recall past := after_recall past s 0 [.response [statusByte e]]
@[simp] theorem timerStart_recall (ms : Word) :
    timerStart ms (s.recall past) = (timerStart ms s).recall past := by
  rw [timerStart_eq, timerStart_eq, after_recall]; rfl
@[simp] theorem timerCancel_recall : timerCancel (s.recall past) = (timerCancel s).recall past := by
  rw [timerCancel_eq, timerCancel_eq, after_recall]; rfl
@[simp] theorem goIdle_recall : goIdle (s.recall past) = (goIdle s).recall past := by
  rw [goIdle_eq, goIdle_eq, after_recall]; rfl
@[simp] theorem emit_recall (c : Callback) : emit c (s.recall past) = (emit c s).recall past := by
  rw [emit_eq, emit_eq, after_recall]; rfl

@[simp] theorem regWrite_recall (a : Addr) (v : Byte) :
    regWrite a v (s.recall past) = (regWrite a v s).recall past := after_recall past s 0 [writeOf a v]
@[simp] theorem regRead_recall (a : Addr) :
    regRead a (s.recall past) = ((regRead a s).1, (regRead a s).2.recall past) := by
  rw [regRead_eq, regRead_eq, after_recall]; rfl
@[simp] theorem regSet_recall (a : Addr) (m o : Byte) :
    regSet a m o (s.recall past) = (regSet a m o s).recall past := by
  rw [regSet_eq, regSet_eq, after_recall]; rfl
@[simp] theorem regWriteBurst_recall (a : Addr) (l : List Byte) :
    regWriteBurst a l (s.recall past) = (regWriteBurst a l s).recall past := by
  rw [regWriteBurst_eq, regWriteBurst_eq, after_recall]
@[simp] theorem regReadBurst_recall (a : Addr) (n : Nat) :
    regReadBurst a n (s.recall past) = ((regReadBurst a n s).1, (regReadBurst a n s).2.recall past) := by
  rw [regReadBurst_eq, regReadBurst_eq, after_recall]; rfl
@[simp] theorem fifoWrite_recall (l : List Byte) :
    fifoWrite l (s.recall past) = (fifoWrite l s).recall past := regWriteBurst_recall past s regFifo l
@[simp] theorem fifoRead_recall (n : Nat) :
    fifoRead n (s.recall past) = ((fifoRead n s).1, (fifoRead n s).2.recall past) :=
  regReadBurst_recall past s regFifo n
@[simp] theorem applySeq_recall (seq : List SeqStep) :
    applySeq seq (s.recall past) = (applySeq seq s).recall past := by
  rw [applySeq_eq, applySeq_eq, after_recall]; rfl
@[simp] theorem setRfTxPower_recall (v : Byte) :
    setRfTxPower v (s.recall past) = (setRfTxPower v s).recall past := by
  rw [setRfTxPower_eq, setRfTxPower_eq, after_recall]; rfl

variable {s} in
theorem next_respond_recall {t : State} (l : List Byte) (h : t = s.recall past) :
    Host.Outcome.next (respond l t) = mapNext (State.recall · past) (.next (respond l s)) := by
  rw [h, respond_recall]; rfl

/-! ### The mode controller (Machine/Msc) -/

@[simp] theorem antennaLowPower_recall :
    antennaLowPower (s.recall past) = (antennaLowPower s).recall past := by
  rw [antennaLowPower_eq, antennaLowPower_eq, after_recall]; rfl
@[simp] theorem setAntennaSwitch_recall (m : OpMode) :
    setAntennaSwitch m (s.recall past) = (setAntennaSwitch m s).recall past := by
  rw [setAntennaSwitch_eq, setAntennaSwitch_eq, after_recall]; rfl
@[simp] theorem setOperationMode_recall (m : OpMode) :
    setOperationMode m (s.recall past) = (setOperationMode m s).recall past := by
  rw [setOperationMode_eq, setOperationMode_eq, after_recall]; rfl
@[simp] theorem sleepOp_recall : sleepOp (s.recall past) = (sleepOp s).recall past := by simp [sleepOp]
@[simp] theorem standbyOp_recall : standbyOp (s.recall past) = (standbyOp s).recall past := by simp [standbyOp]
@[simp] theorem setModem_recall (k : ModemKind) :
    setModem k (s.recall past) = (setModem k s).recall past := by
  rw [setModem_eq, setModem_eq, withModem_eq, withModem_eq, after_recall]; rfl
@[simp] theorem radioReset_recall : radioReset (s.recall past) = (radioReset s).recall past := by
  rw [radioReset_eq, radioReset_eq, after_recall]; rfl

/-! ### Starting an operation (Machine/Pipeline) -/

@[simp] theorem transmit_recall (ms : Word) :
    transmit ms (s.recall past) = (transmit ms s).recall past := by
  rw [transmit_eq, transmit_eq, after_recall]; rfl
@[simp] theorem wakeIfSleep_recall : wakeIfSleep (s.recall past) = (wakeIfSleep s).recall past := by
  rw [wakeIfSleep_eq, wakeIfSleep_eq, after_recall]; rfl
@[simp] theorem sendFskLength_recall (n : Byte) :
    sendFskLength n (s.recall past) = (sendFskLength n s).recall past := by simp [sendFskLength]
theorem sendFsk_recall (n : Byte) :
    sendFsk n (s.recall past) = mapNext (State.recall · past) (sendFsk n s) := by
  simp only [sendFsk, recall_withFskPh, wakeIfSleep_recall, sendFskLength_recall,
    inBuffer_recall, memRead_recall, fifoWrite_recall, transmit_recall, mapNext_ite]
  rfl
theorem sendLora_recall (n : Byte) : sendLora n (s.recall past) = (sendLora n s).recall past := by
  simp only [sendLora, recall_withLoraPh, regWrite_recall, wakeIfSleep_recall, memRead_recall, fifoWrite_recall,
    transmit_recall]
  rfl
theorem execSend_recall (n : Byte) (l : List Byte) :
    execSend n l (s.recall past) = mapNext (State.recall · past) (execSend n l s) := by
  rw [execSend, execSend, inBuffer_recall, memWrite_recall, State.recall_modem]
  split
  · cases s.modem with
    | fsk =>
      simp only [sendFsk_recall]
      cases sendFsk n (memWrite 0 l s) with
      | next t => exact next_respond_recall past [] rfl
      | fault r => rfl
      | refused r => rfl
    | lora => exact next_respond_recall past [] (sendLora_recall ..)
  · exact next_recall past (raiseError_recall ..)
@[simp] theorem captureFifoThresh_recall : captureFifoThresh (s.recall past) = (captureFifoThresh s).recall past := by
  rw [captureFifoThresh_eq, captureFifoThresh_eq, after_recall]; rfl
@[simp] theorem receivePrepare_recall : receivePrepare (s.recall past) = (receivePrepare s).recall past := by
  rw [receivePrepare, receivePrepare, State.recall_modem]
  cases s.modem with
  | fsk => simp only [applySeq_recall, captureFifoThresh_recall, clearFskPacketState_recall]; rfl
  | lora => exact applySeq_recall ..
theorem execReceive_recall :
    execReceive (s.recall past) = mapNext (State.recall · past) (execReceive s) := by
  simp only [execReceive, receiveMode_recall, receivePrepare_recall, zeroBuffer_recall, recall_withState,
    setOperationMode_recall, respond_recall, mapNext_next]
theorem execStartCad_recall :
    execStartCad (s.recall past) = mapNext (State.recall · past) (execStartCad s) := by
  rw [execStartCad, execStartCad, State.recall_modem]
  cases s.modem with
  | fsk => exact next_respond_recall past [] rfl
  | lora =>
    simp only [applySeq_recall, setOperationMode_recall, recall_withState]
    exact next_respond_recall past [] rfl

/-! ### The other host commands (Machine/Facade) -/

@[simp] theorem applyInit_recall (e : InitEntry) :
    applyInit (s.recall past) e = (applyInit s e).recall past := by simp [applyInit]
@[simp] theorem loadDefaultRegisters_recall :
    loadDefaultRegisters (s.recall past) = (loadDefaultRegisters s).recall past := by
  rw [loadDefaultRegisters, loadDefaultRegisters, State.recall_cfg]
  exact List.foldl_hom (State.recall · past) fun u e => applyInit_recall past u e
theorem execInitRadio_recall (c : Byte) :
    execInitRadio c (s.recall past) = mapNext (State.recall · past) (execInitRadio c s) := by
  simp only [execInitRadio, recall_withCbSet, radioReset_recall, setOperationMode_recall,
    loadDefaultRegisters_recall, setModem_recall, goIdle_recall]
  exact next_respond_recall past [] rfl
@[simp] theorem setChannelOp_recall (f : Word) :
    setChannelOp f (s.recall past) = (setChannelOp f s).recall past := by
  rw [setChannelOp_eq, setChannelOp_eq, after_recall]; rfl
@[simp] theorem storeRxConfig_recall (a : RxConfigArgs) :
    storeRxConfig a (s.recall past) = (storeRxConfig a s).recall past := by
  rw [storeRxConfig, storeRxConfig]; cases a.modem <;> rfl
theorem execSetRxConfig_recall (a : RxConfigArgs) :
    execSetRxConfig a (s.recall past) = mapNext (State.recall · past) (execSetRxConfig a s) := by
  simp [execSetRxConfig]
@[simp] theorem storeTxConfig_recall (a : TxConfigArgs) :
    storeTxConfig a (s.recall past) = (storeTxConfig a s).recall past := by
  rw [storeTxConfig, storeTxConfig]; cases a.modem <;> rfl
@[simp] theorem setTxConfigOp_recall (a : TxConfigArgs) :
    setTxConfigOp a (s.recall past) = (setTxConfigOp a s).recall past := by simp [setTxConfigOp]
theorem execSetTxContinuousWave_recall (f : Word) (v : Byte) (d : Half) :
    execSetTxContinuousWave f v d (s.recall past) =
      mapNext (State.recall · past) (execSetTxContinuousWave f v d s) := by
  simp only [execSetTxContinuousWave, setChannelOp_recall, setTxConfigOp_recall, applySeq_recall,
    recall_withState, timerStart_recall, setOperationMode_recall]
  exact next_respond_recall past [] rfl
theorem execSetMaxPayloadLength_recall (m : ModemKind) (v : Byte) :
    execSetMaxPayloadLength m v (s.recall past) =
      mapNext (State.recall · past) (execSetMaxPayloadLength m v s) := by
  cases m with
  | fsk => cases h : (setModem .fsk s).fsk.fixLen <;> simp [execSetMaxPayloadLength, h]
  | lora => simp [execSetMaxPayloadLength]
@[simp] theorem setPublicNetworkOp_recall (e : Bool) :
    setPublicNetworkOp e (s.recall past) = (setPublicNetworkOp e s).recall past := by
  rw [setPublicNetworkOp_eq, setPublicNetworkOp_eq, ← setModem_eq, ← setModem_eq, setModem_recall, after_recall]; rfl
@[simp] theorem respondMs_recall (ms : Option Nat) :
    respondMs ms (s.recall past) = (respondMs ms s).recall past := by
  cases ms with
  | none => exact raiseError_recall ..
  | some n => simp [respondMs]
@[simp] theorem timeOnAirFsk_recall (l : Byte) :
    timeOnAirFsk l (s.recall past) = (timeOnAirFsk l s).recall past := by
  rw [timeOnAirFsk, timeOnAirFsk, State.recall_fsk]
  split <;> simp
@[simp] theorem timeOnAirLora_recall (l : Byte) :
    timeOnAirLora l (s.recall past) = (timeOnAirLora l s).recall past := by
  simp only [timeOnAirLora, State.recall_lora]
  cases loraBwHz s.lora.bandwidth.toNat <;> simp
theorem execTimeOnAir_recall (m : ModemKind) (l : Byte) :
    execTimeOnAir m l (s.recall past) = mapNext (State.recall · past) (execTimeOnAir m l s) := by
  cases m with
  | fsk => exact next_recall past (timeOnAirFsk_recall ..)
  | lora => exact next_recall past (timeOnAirLora_recall ..)

@[simp] theorem randomLoop_recall (n : Nat) (v : Word) :
    randomLoop n v (s.recall past) = ((randomLoop n v s).1, (randomLoop n v s).2.recall past) := by
  induction n generalizing v s with
  | zero => rfl
  | succ n ih => simp [randomLoop, ih]
theorem execRandom_recall : execRandom (s.recall past) = mapNext (State.recall · past) (execRandom s) := by
  simp [execRandom]
@[simp] theorem currentRssi_recall (m : ModemKind) :
    currentRssi m (s.recall past) = ((currentRssi m s).1, (currentRssi m s).2.recall past) := by
  rw [currentRssi_eq, currentRssi_eq, after_recall]; rfl
@[simp] theorem senseLoop_recall (m : ModemKind) (th : Int) (n : Nat) :
    senseLoop m th n (s.recall past) = ((senseLoop m th n s).1, (senseLoop m th n s).2.recall past) := by
  induction n generalizing s with
  | zero => rfl
  | succ n ih =>
    simp only [senseLoop, currentRssi_recall, State.recall_cfg, wait_recall, ih]
    split <;> rfl
@[simp] theorem drawPolls_recall (n : Nat) :
    drawPolls n (s.recall past) = ((drawPolls n s).1, (drawPolls n s).2.recall past) := rfl
theorem execPerformCarrierSense_recall (m : ModemKind) (f : Word) (th : Half) (d : Word) :
    execPerformCarrierSense m f th d (s.recall past) =
      mapNext (State.recall · past) (execPerformCarrierSense m f th d s) := by
  simp [execPerformCarrierSense]
theorem execLock_recall : execLock (s.recall past) = mapNext (State.recall · past) (execLock s) := by
  rw [execLock, execLock, State.recall_lock]
  split
  · exact next_recall past (raiseError_recall ..)
  · exact next_respond_recall past [] rfl
theorem execUnlock_recall : execUnlock (s.recall past) = mapNext (State.recall · past) (execUnlock s) := by
  rw [execUnlock, execUnlock, State.recall_lock]
  split
  · exact next_recall past (raiseError_recall ..)
  · exact next_respond_recall past [] rfl

/-! ### The handlers (Machine/Events) -/

@[simp] theorem restartRx_recall : restartRx (s.recall past) = (restartRx s).recall past := regSet_recall ..
@[simp] theorem fskRxEnd_recall : fskRxEnd (s.recall past) = (fskRxEnd s).recall past := by
  cases h : s.fsk.rxContinuous <;> simp [fskRxEnd, h]
@[simp] theorem fskRxAbort_recall : fskRxAbort (s.recall past) = (fskRxAbort s).recall past := by
  simp [fskRxAbort]
@[simp] theorem readLength_recall :
    readLength (s.recall past) = ((readLength s).1, (readLength s).2.recall past) := by
  rw [readLength_eq, readLength_eq, after_recall]; rfl
@[simp] theorem fskExtractLength_recall :
    fskExtractLength (s.recall past) = ((fskExtractLength s).1, (fskExtractLength s).2.recall past) := by
  simp only [fskExtractLength, State.recall_fskPh, State.recall_cfg, readLength_recall, fskRxAbort_recall]
  split
  · split <;> rfl
  · rfl
@[simp] theorem drainFsk_recall (n : Nat) : drainFsk n (s.recall past) = (drainFsk n s).recall past := by
  rw [drainFsk_eq, drainFsk_eq, after_recall]; rfl
@[simp] theorem refillFsk_recall (n : Nat) : refillFsk n (s.recall past) = (refillFsk n s).recall past := by
  rw [refillFsk_eq, refillFsk_eq, after_recall]; rfl
@[simp] theorem captureFskReadings_recall :
    captureFskReadings (s.recall past) = (captureFskReadings s).recall past := by
  rw [captureFskReadings_eq, captureFskReadings_eq, after_recall]; rfl
@[simp] theorem fskDeliver_recall : fskDeliver (s.recall past) = (fskDeliver s).recall past := by
  simp [fskDeliver]
@[simp] theorem fskComplete_recall :
    fskComplete (s.recall past) = mapNext (State.recall · past) (fskComplete s) := by simp [fskComplete]
theorem dio0RxFsk_recall :
    dio0RxFsk (s.recall past) = mapNext (State.recall · past) (dio0RxFsk s) := by
  cases h : s.fsk.crcOn <;> simp [dio0RxFsk, h]

@[simp] theorem loraRxEnd_recall : loraRxEnd (s.recall past) = (loraRxEnd s).recall past := by
  cases h : s.lora.rxContinuous <;> simp [loraRxEnd, h]
@[simp] theorem loraDrain_recall (n : Byte) : loraDrain n (s.recall past) = (loraDrain n s).recall past := by
  simp [loraDrain]
@[simp] theorem captureLoraReadings_recall :
    captureLoraReadings (s.recall past) = (captureLoraReadings s).recall past := by
  rw [captureLoraReadings_eq, captureLoraReadings_eq, after_recall]; rfl
@[simp] theorem loraDeliver_recall (n : Byte) :
    loraDeliver n (s.recall past) = (loraDeliver n s).recall past := by
  simp only [loraDeliver, recall_withLoraPh, loraDrain_recall, loraRxEnd_recall, memRead_recall, emit_recall]
  rfl
theorem dio0RxLora_recall : dio0RxLora (s.recall past) = (dio0RxLora s).recall past := by simp [dio0RxLora]
theorem dio0Tx_recall : dio0Tx (s.recall past) = (dio0Tx s).recall past := by
  rw [dio0Tx, dio0Tx, State.recall_modem]
  simp only [timerCancel_recall]
  cases s.modem with
  | fsk => exact emit_recall past { timerCancel s with state := .idle } _
  | lora => simp only [regWrite_recall, recall_withState, emit_recall]; rfl
theorem execDio0Irq_recall :
    execDio0Irq (s.recall past) = mapNext (State.recall · past) (execDio0Irq s) := by
  rw [execDio0Irq, execDio0Irq, State.recall_state, State.recall_modem]
  split
  · exact dio0RxFsk_recall ..
  · exact next_recall past (dio0RxLora_recall ..)
  · exact next_recall past (dio0Tx_recall ..)
  · rfl
  · rfl

theorem dio1RxFsk_recall :
    dio1RxFsk (s.recall past) = mapNext (State.recall · past) (dio1RxFsk s) := by simp [dio1RxFsk]
theorem dio1TxFsk_recall :
    dio1TxFsk (s.recall past) = mapNext (State.recall · past) (dio1TxFsk s) := by simp [dio1TxFsk]
theorem dio1RxLora_recall : dio1RxLora (s.recall past) = (dio1RxLora s).recall past := by simp [dio1RxLora]
theorem execDio1Irq_recall :
    execDio1Irq (s.recall past) = mapNext (State.recall · past) (execDio1Irq s) := by
  rw [execDio1Irq, execDio1Irq, State.recall_state, State.recall_modem]
  split
  · exact dio1RxFsk_recall ..
  · exact dio1TxFsk_recall ..
  · exact next_recall past (dio1RxLora_recall ..)
  · rfl
  · rfl
  · rfl

theorem dio2RxFsk_recall : dio2RxFsk (s.recall past) = (dio2RxFsk s).recall past := by simp [dio2RxFsk]
theorem dio2Lora_recall : dio2Lora (s.recall past) = (dio2Lora s).recall past := by
  cases h : s.lora.freqHopOn <;> simp [dio2Lora, h]
theorem execDio2Irq_recall :
    execDio2Irq (s.recall past) = mapNext (State.recall · past) (execDio2Irq s) := by
  rw [execDio2Irq, execDio2Irq, State.recall_state, State.recall_modem]
  split
  · exact next_recall past (dio2RxFsk_recall ..)
  · exact next_recall past (dio2Lora_recall ..)
  · exact next_recall past (dio2Lora_recall ..)
  · rfl
  · rfl
  · rfl

theorem dio3Lora_recall : dio3Lora (s.recall past) = (dio3Lora s).recall past := by
  rw [dio3Lora, dio3Lora, State.recall_state]
  simp only [regRead_recall, regWrite_recall]
  cases s.state with
  | cad => simp only [goIdle_recall, emit_recall]; rfl
  | idle | rxRunning | txRunning => simp only [emit_recall]; rfl
theorem execDio3Irq_recall :
    execDio3Irq (s.recall past) = mapNext (State.recall · past) (execDio3Irq s) := by
  rw [execDio3Irq, execDio3Irq, State.recall_modem]
  cases s.modem with
  | fsk => rfl
  | lora => exact next_recall past (dio3Lora_recall ..)
theorem execDio4Irq_recall :
    execDio4Irq (s.recall past) = mapNext (State.recall · past) (execDio4Irq s) := by
  rw [execDio4Irq, execDio4Irq, State.recall_modem]
  cases s.modem <;> rfl

theorem timeoutRecovery_recall : timeoutRecovery (s.recall past) = (timeoutRecovery s).recall past := by
  simp only [timeoutRecovery, timerCancel_recall, setOperationMode_recall, loadDefaultRegisters_recall,
    setModem_recall, setPublicNetworkOp_recall, recall_withState, emit_recall]
  rfl
theorem execTimeoutIrq_recall :
    execTimeoutIrq (s.recall past) = mapNext (State.recall · past) (execTimeoutIrq s) := by
  rw [execTimeoutIrq, execTimeoutIrq, State.recall_state]
  cases s.state with
  | txRunning => exact next_recall past (timeoutRecovery_recall ..)
  | idle => rfl
  | rxRunning => rfl
  | cad => rfl

end Recall

end Sys2Proof.Machine

section

open Sys2Proof Sys2Proof.Machine

/-- Settles O16: each operation only appends to the history, and none branches on it. -/
theorem historyUnread : Obligations.HistoryUnread := by
  intro i s past
  show exec i (s.recall past) = mapNext (State.recall · past) (exec i s)
  cases i with
  | initRadio c => exact execInitRadio_recall ..
  | setChannel f => exact next_respond_recall past [] (setChannelOp_recall ..)
  | getStatus => exact next_respond_recall past [s.state.code] rfl
  | sleep => exact next_respond_recall past [] (sleepOp_recall ..)
  | standby => exact next_respond_recall past [] (standbyOp_recall ..)
  | setRxConfig a => exact execSetRxConfig_recall ..
  | setTxConfig a => exact next_respond_recall past [] (setTxConfigOp_recall ..)
  | send n l => exact execSend_recall ..
  | receive => exact execReceive_recall ..
  | startCad => exact execStartCad_recall ..
  | setTxContinuousWave f v d => exact execSetTxContinuousWave_recall ..
  | setMaxPayloadLength m v => exact execSetMaxPayloadLength_recall ..
  | setPublicNetwork e => exact next_respond_recall past [] (setPublicNetworkOp_recall ..)
  | performCarrierSense m f th d => exact execPerformCarrierSense_recall ..
  | timeOnAir m l => exact execTimeOnAir_recall ..
  | random => exact execRandom_recall ..
  | checkRfFrequency f => exact next_respond_recall past [1] rfl
  | lock => exact execLock_recall ..
  | unlock => exact execUnlock_recall ..
  | dio0Irq => exact execDio0Irq_recall ..
  | dio1Irq => exact execDio1Irq_recall ..
  | dio2Irq => exact execDio2Irq_recall ..
  | dio3Irq => exact execDio3Irq_recall ..
  | dio4Irq => exact execDio4Irq_recall ..
  | dio5Irq => rfl
  | timeoutIrq => exact execTimeoutIrq_recall ..
  | writeRegister a v => exact next_recall past (regWrite_recall ..)
  | writeRegisters a l => exact next_recall past (regWriteBurst_recall ..)
  | readRegister a =>
    exact congrArg (fun r => Host.Outcome.next (returns (.bytes [r.1]) r.2)) (regRead_recall past s a)
  | readRegisters a n =>
    exact congrArg (fun r => Host.Outcome.next (returns (.bytes r.1) r.2)) (regReadBurst_recall past s a n)
  | writeFifo l => exact next_recall past (fifoWrite_recall ..)
  | readFifo n => exact congrArg (fun r => Host.Outcome.next (returns (.bytes r.1) r.2)) (fifoRead_recall past s n)
  | setOperationMode m => exact next_recall past (setOperationMode_recall ..)
  | setModem k => exact next_recall past (setModem_recall ..)
  | radioReset => exact next_recall past (radioReset_recall ..)
  | transmit ms => exact next_recall past (transmit_recall ..)
  | setAntennaSwitch m => exact next_recall past (setAntennaSwitch_recall ..)
  | antennaLowPower => exact next_recall past (antennaLowPower_recall ..)
  | loadDefaultRegisters => exact next_recall past (loadDefaultRegisters_recall ..)
  | setRfTxPower v => exact next_recall past (setRfTxPower_recall ..)
  | fskBandwidthCode bw => rfl
  | txPowerEncode v k => rfl
  | fskTimeOnAir => rfl
  | loraTimeOnAir => rfl
  | fskRxAbort => exact next_recall past (fskRxAbort_recall ..)

end

/-! The agents' steps, the reset state and the pin levels. -/

namespace Sys2Proof.Machine

/-! ### A step of each kind of schedule (R10) -/

section Schedule

variable (s : State) (rest : List Stimulus)

theorem step_nil : step { s with inputs := [] } = .next { s with inputs := [] } := rfl

theorem step_cons (x : Stimulus) :
    step { s with inputs := x :: rest } = runStimulus x { s with inputs := rest } := rfl

end Schedule

section Enabled

variable {s : State}

theorem runFrame_of_decode {i : Instr} {f : List Byte} (h : decodeCommand f = .ok i) : runFrame f s = exec i s := by
  rw [runFrame, h]

theorem expire_of_disarmed (h : s.timer = .disarmed) : expire s = s := by
  rw [expire, h]

theorem wake_of_disabled (h : s.cfg.workerPresent = false ∨ s.worker ≠ .waiting ∨ s.pending = 0) : wake s = s := by
  have hoff : wakeEnabled s = false := by
    rw [wakeEnabled]
    obtain h | h | h := h <;> simp [h]
  rw [wake, hoff]
  rfl

theorem heldBatch_holding {b : EventVec} (hp : s.cfg.workerPresent = true) (hw : s.worker = .holding b)
    (hl : s.lock = 0) : heldBatch s = some b := by
  simp [heldBatch, hp, hw, hl]

theorem heldBatch_none (h : s.cfg.workerPresent = false ∨ s.worker = .waiting ∨ s.lock ≠ 0) : heldBatch s = none := by
  rw [heldBatch]
  cases hw : s.worker with
  | waiting => rfl
  | holding b =>
    refine if_neg fun hon => ?_
    obtain ⟨hp, hl⟩ := Bool.and_eq_true_iff.1 hon
    obtain h | h | h := h
    · exact absurd (h.symm.trans hp) nofun
    · exact absurd (hw.symm.trans h) nofun
    · exact h (eq_of_beq hl)

theorem directBatch_pending (hp : s.cfg.workerPresent = false) (hl : s.lock = 0) (hb : s.pending ≠ 0) :
    directBatch s = some s.pending := by
  rw [directBatch, hp, hl, bne_iff_ne.2 hb]
  rfl

theorem directBatch_none (h : s.cfg.workerPresent = true ∨ s.pending = 0 ∨ s.lock ≠ 0) : directBatch s = none := by
  refine if_neg fun hon => ?_
  obtain ⟨hpl, hb⟩ := Bool.and_eq_true_iff.1 hon
  obtain ⟨hp, hl⟩ := Bool.and_eq_true_iff.1 hpl
  obtain h | h | h := h
  · rw [h] at hp
    exact nomatch hp
  · exact bne_iff_ne.1 hb h
  · exact h (eq_of_beq hl)

theorem runBatch_of_none (h : heldBatch s = none) : runBatch s = .next s := by
  rw [runBatch, h]

theorem dispatchBatch_of_none (h : directBatch s = none) : dispatchBatch s = .next s := by
  rw [dispatchBatch, h]

theorem runHandlers_one (i : Instr) (s : State) : runHandlers [i] s = exec i s := by
  rw [runHandlers]
  cases exec i s <;> rfl

end Enabled

/-- An event frame has exactly its handler's bit set, so as a batch it is that handler alone (R83, R91). -/
theorem decodeBatch_of_decodeEvent {f : List Byte} {i : Instr} (h : decodeEvent f = .ok i) :
    decodeBatch ((u8At f 0).setWidth 7) = [i] ∧ (u8At f 0).setWidth 7 ≠ (0 : EventVec) := by
  rw [decodeEvent.eq_def] at h
  split at h
  case h_2 => exact nomatch h
  next b =>
    have hb : u8At [b] 0 = BitVec.ofNat 8 b.toNat := by rw [BitVec.ofNat_toNat, BitVec.setWidth_eq]; rfl
    rw [hb]
    split at h
    case h_8 => exact nomatch h
    all_goals
      next hv =>
        obtain rfl := Decoded.ok.inj h
        rw [hv]
        decide

end Sys2Proof.Machine

section

open Sys2Proof Sys2Proof.Machine

/-- Settles O7: a placed frame decodes to its instruction; a placed event is a batch of that one handler. -/
theorem stepRunsInstruction : Obligations.StepRunsInstruction := by
  refine ⟨?command, ?bus, ?micro, ?worker, ?direct⟩
  case command =>
    intro i f rest s h
    exact runFrame_of_decode h
  case bus =>
    intro i f rest s h
    rw [step_cons, runStimulus, h]
    rfl
  case micro =>
    intro i f rest s h
    rw [step_cons, runStimulus, h]
    rfl
  case worker =>
    intro i f s t h hp hl hi
    obtain ⟨hb, -⟩ := decodeBatch_of_decodeEvent h
    have hplace : step (placeFrame .event f s) = runBatch { s with worker := .holding ((u8At f 0).setWidth 7) } := by
      rw [placeFrame, placeEvent, if_pos hp, ← hl]
      rfl
    have hheld : heldBatch { s with worker := .holding ((u8At f 0).setWidth 7) } = some ((u8At f 0).setWidth 7) :=
      heldBatch_holding hp rfl hl
    rw [hplace, runBatch, hheld]
    simp only [hb, runHandlers_one, hi]
    rfl
  case direct =>
    intro i f s t h hp hl hi
    obtain ⟨hb, h0⟩ := decodeBatch_of_decodeEvent h
    have hplace : step (placeFrame .event f s) = dispatchBatch { s with pending := (u8At f 0).setWidth 7 } := by
      rw [placeFrame, placeEvent, if_neg (by rw [hp]; exact nofun), ← hl]
      rfl
    have hdirect : directBatch { s with pending := (u8At f 0).setWidth 7 } = some ((u8At f 0).setWidth 7) :=
      directBatch_pending hp hl h0
    rw [hplace, dispatchBatch, hdirect]
    simp only [hb, runHandlers_one]
    exact hi

/-- Settles O8: each agent's step is skipped where its guard fails. -/
theorem disabledSteps : Obligations.DisabledSteps := by
  intro s rest
  refine ⟨step_nil s, ?expire, ?wake, ?run, ?dispatch⟩
  case expire =>
    intro h
    exact congrArg Host.Outcome.next (expire_of_disarmed (s := { s with inputs := rest }) h)
  case wake =>
    intro h
    exact congrArg Host.Outcome.next (wake_of_disabled (s := { s with inputs := rest }) h)
  case run =>
    intro h
    exact runBatch_of_none (heldBatch_none (s := { s with inputs := rest }) h)
  case dispatch =>
    intro h
    exact dispatchBatch_of_none (directBatch_none (s := { s with inputs := rest }) h)

/-- Settles O18: the fields of the reset state as R44 lists them, and no byte of its buffer is listed. -/
theorem resetValues : Obligations.ResetValues := by
  intro c
  exact ⟨rfl, rfl, rfl, rfl, rfl, rfl, rfl, fun _ => rfl, rfl, rfl, rfl, rfl, rfl, rfl, rfl, rfl, rfl⟩

end

namespace Sys2Proof.Machine

/-- A reset state is good in each part of the invariant. -/
theorem resetWith_inv {c : Config} (h : c.wellFormed = true) : Inv (State.resetWith c) := by
  have hbuffer : BufferOk c [] := ⟨rfl, rfl⟩
  have hfsk : FskOk c ⟨false, false, 0, 0, 0, 0, 0, 0, 0⟩ :=
    ⟨Nat.le_refl _, Nat.zero_le _, Nat.zero_le _, Nat.zero_le _, BitVec.zero_and, by decide, by decide, rfl⟩
  have hlora : LoraOk c ⟨0, 0, 0⟩ := ⟨Nat.zero_le _, by decide⟩
  exact (inv_iff _).2 ⟨h, hbuffer, hfsk, hlora, fun _ => rfl, ⟨rfl, rfl⟩, rfl, fun _ => rfl⟩

theorem resetWith_txWatched (c : Config) : TxWatched (State.resetWith c) := nofun

end Sys2Proof.Machine

section

open Sys2Proof Sys2Proof.Machine

/-- Settles O19: nothing runs at reset, and the default record is well-formed. -/
theorem resetIsGood : Obligations.ResetIsGood :=
  ⟨fun c hc => ⟨resetWith_inv hc, resetWith_txWatched c⟩, resetWith_inv (by decide), resetWith_txWatched defaultConfig⟩

end

namespace Sys2Proof.Machine

/-! ### Pin levels (R29, R82, R141 to R144) -/

/-- The schemes are tried in the order A, B, C (R142). -/
theorem scheme_iff (w : Wiring) :
    (scheme w = .a ↔ w.rfSwitchCtl1 = true ∧ w.rfSwitchCtl2 = true) ∧
    (scheme w = .b ↔ ¬(w.rfSwitchCtl1 = true ∧ w.rfSwitchCtl2 = true) ∧ w.txctl = true ∧ w.rxctl = true) ∧
    (scheme w = .c ↔ ¬(w.rfSwitchCtl1 = true ∧ w.rfSwitchCtl2 = true) ∧ ¬(w.txctl = true ∧ w.rxctl = true) ∧
      w.antSwitch = true) := by
  simp only [scheme, Bool.and_eq_true]
  by_cases ha : w.rfSwitchCtl1 = true ∧ w.rfSwitchCtl2 = true
  · simp [ha]
  by_cases hb : w.txctl = true ∧ w.rxctl = true
  · simp [ha, hb]
  by_cases hc : w.antSwitch = true <;> simp [ha, hb, hc]

theorem modeClass_iff (m : OpMode) : (modeClass m = .tx ↔ m = .transmitter) ∧
    (modeClass m = .rx ↔ m = .receiver ∨ m = .receiverSingle ∨ m = .cad) := by
  cases m <;> simp [modeClass]

/-- Driving one pin sets its level and no other's (R29). -/
theorem gpioGet_gpioPut (g : Gpio) (p q : Pin) (level : Bool) :
    gpioGet (gpioPut g p level) q = if q = p then level else gpioGet g q := by
  cases p <;> cases q <;> rfl

/-- A pin that is not connected is not driven (R29). -/
theorem gpioSet_of_nc {s : State} {p : Pin} (h : s.cfg.wiring.connected p = false) (level : Bool) :
    gpioSet p level s = s := by
  rw [gpioSet_eq, h]
  rfl

theorem gpioSet_of_connected {s : State} {p : Pin} (h : s.cfg.wiring.connected p = true) (level : Bool) :
    gpioSet p level s = { s.after 0 [.gpioSet p level] with gpio := gpioPut s.gpio p level } := by
  rw [gpioSet_eq, h]
  rfl

theorem pinEvents_cons (w : Wiring) (p : Pin) (level : Bool) (l : List (Pin × Bool)) :
    pinEvents w ((p, level) :: l) = (if w.connected p then [.gpioSet p level] else []) ++ pinEvents w l := by
  cases h : w.connected p <;> simp [pinEvents, h]

theorem pinsDriven_cons (w : Wiring) (p : Pin) (level : Bool) (l : List (Pin × Bool)) (g : Gpio) :
    pinsDriven w ((p, level) :: l) g = pinsDriven w l (if w.connected p then gpioPut g p level else g) := by
  cases h : w.connected p <;> simp [pinsDriven, h]

end Sys2Proof.Machine

section

open Sys2Proof Sys2Proof.Machine

/-- Settles O34: the table row by row, by computation, and the pin lemmas above. -/
theorem pinLevels : Obligations.PinLevels := by
  refine ⟨?default, ?board, modeClass_iff, scheme_iff, ?drive, gpioGet_gpioPut, ?list⟩
  case default =>
    intro w hw
    obtain ⟨a1, a2, b1, b2, c, pa, tc, l⟩ := w
    obtain rfl : l = defaultLevels := hw
    refine ⟨fun boost => ?_, fun _ => rfl, fun _ => rfl, fun _ => rfl, fun _ => rfl, fun _ => rfl, fun _ => rfl,
      fun c _ hc => ?_, rfl⟩
    · cases boost <;> rfl
    · cases c with
      | tx => exact absurd rfl hc
      | rx | other => rfl
  case board =>
    intro w boost
    refine ⟨rfl, rfl, rfl, rfl, rfl, rfl, rfl, rfl, rfl, fun c => ?_, rfl⟩
    cases c <;> rfl
  case drive =>
    intro s p level
    exact ⟨fun h => gpioSet_of_nc h level, fun h => gpioSet_of_connected h level, rfl⟩
  case list =>
    intro w l p level g
    exact ⟨rfl, rfl, pinEvents_cons w p level l, pinsDriven_cons w p level l g⟩

end

/-! The encodings of 30_encoding.md: round trips, refused frames, aliases, batches. -/

namespace Sys2Proof

/-! ### Operands read back from the bytes they were written as (R55, R81, R82, R86)

A read at a literal offset of an encoding computes to the bytes written there, so `u32_of_bytes` and its like speak of an
operand wherever it stands in a frame. -/

/-- `u32_of_bytes` for a natural operand of the call encoding. -/
theorem natAt_of_bytes {f : List Byte} {k n : Nat} (h : n < 2 ^ 32)
    (hf : [u8At f k, u8At f (k + 1), u8At f (k + 2), u8At f (k + 3)] = leNat n) : natAt f k = n := by
  simp only [leNat, le32, List.cons.injEq, and_true] at hf
  obtain ⟨h0, h1, h2, h3⟩ := hf
  rw [natAt, u32At, u16At, u16At, h0, h1, h2, h3, u32_of_bytes, nat_of_bytes h]

theorem withMode_code (op : Byte) (m : OpMode) (d : OpMode → Instr) : withMode [op, m.code] d = .ok (d m) := by
  rw [withMode, show OpMode.ofByte (u8At [op, m.code] 1) = some m from OpMode.ofByte_code m]

theorem withModem_code (op : Byte) (m : ModemKind) (rest : List Byte) (d : ModemKind → Instr) :
    withModem (op :: m.code :: rest) d = .ok (d m) := by
  rw [withModem, show ModemKind.ofByte (u8At (op :: m.code :: rest) 1) = some m from ModemKind.ofByte_code m]

theorem rxConfigArgs_encode (a : RxConfigArgs) : rxConfigArgs (encode (.setRxConfig a)) a.modem = a := by
  obtain ⟨m, bw, dr, cr, afc, pre, sym, fixed, len, crc, hop, period, iq, cont⟩ := a
  exact (RxConfigArgs.mk.injEq ..).mpr ⟨rfl, u32_of_bytes bw, u32_of_bytes dr, rfl, u32_of_bytes afc, u16_of_bytes pre,
    u16_of_bytes sym, boolByte_ne_zero fixed, rfl, boolByte_ne_zero crc, boolByte_ne_zero hop, rfl, boolByte_ne_zero iq,
    boolByte_ne_zero cont⟩

theorem txConfigArgs_encode (a : TxConfigArgs) : txConfigArgs (encode (.setTxConfig a)) a.modem = a := by
  obtain ⟨m, pow, dev, bw, dr, cr, pre, fixed, crc, hop, period, iq, ms⟩ := a
  exact (TxConfigArgs.mk.injEq ..).mpr ⟨rfl, rfl, u32_of_bytes dev, u32_of_bytes bw, u32_of_bytes dr, rfl,
    u16_of_bytes pre, boolByte_ne_zero fixed, boolByte_ne_zero crc, boolByte_ne_zero hop, rfl, boolByte_ne_zero iq,
    u32_of_bytes ms⟩

/-! ### Format C: the frames with more than one operand (R87) -/

theorem decodeCommand_setRxConfig (a : RxConfigArgs) :
    decodeCommand (encode (.setRxConfig a)) = .ok (.setRxConfig a) :=
  (withModem_code _ a.modem _ fun m => .setRxConfig (rxConfigArgs (encode (.setRxConfig a)) m)).trans
    (congrArg (fun b => Decoded.ok (.setRxConfig b)) (rxConfigArgs_encode a))

theorem decodeCommand_setTxConfig (a : TxConfigArgs) :
    decodeCommand (encode (.setTxConfig a)) = .ok (.setTxConfig a) :=
  (withModem_code _ a.modem _ fun m => .setTxConfig (txConfigArgs (encode (.setTxConfig a)) m)).trans
    (congrArg (fun b => Decoded.ok (.setTxConfig b)) (txConfigArgs_encode a))

/-- The decoder's arm for `SEND`: the size byte must be there before it gives the length (R87, R95). -/
theorem decodeCommand_cons_send (rest : List Byte) : decodeCommand (0x07 :: rest) =
    if rest.length + 1 < 2 then .rejected .badLength
    else ofLength (0x07 :: rest) (2 + (u8At rest 0).toNat) (.ok (.send (u8At rest 0) (rest.drop 1))) := rfl

theorem decodeCommand_send {size : Byte} {buffer : List Byte} (h : buffer.length = size.toNat) :
    decodeCommand (encode (.send size buffer)) = .ok (.send size buffer) := by
  have hsize : ¬ (size :: buffer).length + 1 < 2 := by
    rw [List.length_cons]
    omega
  have hlen : (0x07 :: size :: buffer).length = 2 + size.toNat := by
    rw [List.length_cons, List.length_cons, h]
    omega
  rw [encode, decodeCommand_cons_send, if_neg hsize]
  exact if_pos hlen

theorem decodeCommand_setTxContinuousWave (f : Word) (v : Byte) (d : Half) :
    decodeCommand (encode (.setTxContinuousWave f v d)) = .ok (.setTxContinuousWave f v d) :=
  congrArg Decoded.ok ((Instr.setTxContinuousWave.injEq ..).mpr ⟨u32_of_bytes f, rfl, u16_of_bytes d⟩)

theorem decodeCommand_performCarrierSense (m : ModemKind) (f : Word) (th : Half) (d : Word) :
    decodeCommand (encode (.performCarrierSense m f th d)) = .ok (.performCarrierSense m f th d) :=
  (withModem_code _ m _ _).trans
    (congrArg Decoded.ok ((Instr.performCarrierSense.injEq ..).mpr
      ⟨rfl, u32_of_bytes f, u16_of_bytes th, u32_of_bytes d⟩))

/-! ### Format U: the calls with more than one operand (R93; log entry 4) -/

theorem decodeMicro_txPowerEncode (v : Byte) (p : PaPath) :
    decodeMicro (encode (.txPowerEncode v p)) = .ok (.txPowerEncode v p) := by
  cases p <;> rfl

theorem decodeMicro_fskTimeOnAir {a b c d e r : Nat} (ha : a < 2 ^ 32) (hb : b < 2 ^ 32) (hc : c < 2 ^ 32)
    (hd : d < 2 ^ 32) (he : e < 2 ^ 32) (hr : r < 2 ^ 32) :
    decodeMicro (encode (.fskTimeOnAir a b c d e r)) = .ok (.fskTimeOnAir a b c d e r) :=
  congrArg Decoded.ok ((Instr.fskTimeOnAir.injEq ..).mpr ⟨natAt_of_bytes ha rfl, natAt_of_bytes hb rfl,
    natAt_of_bytes hc rfl, natAt_of_bytes hd rfl, natAt_of_bytes he rfl, natAt_of_bytes hr rfl⟩)

theorem decodeMicro_loraTimeOnAir {bw sf cr pre len : Nat} (hbw : bw < 2 ^ 32) (hsf : sf < 2 ^ 32) (hcr : cr < 2 ^ 32)
    (hpre : pre < 2 ^ 32) (hlen : len < 2 ^ 32) (crcOn fixedLen ldro : Bool) :
    decodeMicro (encode (.loraTimeOnAir bw sf cr pre len crcOn fixedLen ldro)) =
      .ok (.loraTimeOnAir bw sf cr pre len crcOn fixedLen ldro) :=
  congrArg Decoded.ok ((Instr.loraTimeOnAir.injEq ..).mpr ⟨natAt_of_bytes hbw rfl, natAt_of_bytes hsf rfl,
    natAt_of_bytes hcr rfl, natAt_of_bytes hpre rfl, natAt_of_bytes hlen rfl,
    boolByte_ne_zero crcOn, boolByte_ne_zero fixedLen, boolByte_ne_zero ldro⟩)

/-! ### Format B: the address byte, then the spelling (R92, R97; log entry 17) -/

theorem decodeBus_write (addr : Addr) (data : List Byte) :
    decodeBus (busAddressByte true addr :: data) = decodeBusWrite addr data := by
  rw [decodeBus, busAddressByte_write, if_pos rfl, busAddressByte_addr]

theorem decodeBus_read (addr : Addr) (filler : List Byte) :
    decodeBus (busAddressByte false addr :: filler) = decodeBusRead addr filler := by
  rw [decodeBus, busAddressByte_write, if_neg nofun, busAddressByte_addr]

/-- The data bytes of a write frame are decoded to the canonical spelling of the burst. -/
theorem decodeBusWrite_eq_canonical (addr : Addr) {data : List Byte} (h : data ≠ []) :
    decodeBusWrite addr data = .ok (Instr.writeRegisters addr data).canonical := by
  match data, h with
  | [v], _ => exact (apply_ite Decoded.ok ..).symm
  | v :: w :: rest, _ => exact (apply_ite Decoded.ok ..).symm

/-- The filler of a read frame is decoded to the canonical spelling of the burst. -/
theorem decodeBusRead_eq_canonical (addr : Addr) {n : Nat} (h : n ≠ 0) :
    decodeBusRead addr (List.replicate n 0) = .ok (Instr.readRegisters addr n).canonical := by
  have hfiller : (List.replicate n (0 : Byte)).all (fun b => b == 0) = true := by simp
  rw [decodeBusRead, if_pos hfiller, List.length_replicate]
  match n, h with
  | 1, _ => exact (apply_ite Decoded.ok ..).symm
  | k + 2, _ => exact (apply_ite Decoded.ok ..).symm

theorem canonical_writeRegisters_fifo (bytes : List Byte) :
    (Instr.writeRegisters 0 bytes).canonical = .writeFifo bytes := by
  match bytes with
  | [] => rfl
  | [v] => rfl
  | v :: w :: rest => rfl

theorem canonical_readRegisters_fifo (n : Nat) : (Instr.readRegisters 0 n).canonical = .readFifo n := by
  match n with
  | 0 => rfl
  | 1 => rfl
  | k + 2 => rfl

/-- A bus frame decodes to the canonical spelling of its primitive. -/
theorem decodeBus_encode {i : Instr} (hf : i.format = .bus) (hne : encode i ≠ []) :
    decodeBus (encode i) = .ok i.canonical := by
  cases i
  case writeRegister addr v =>
    exact (decodeBus_write addr [v]).trans (decodeBusWrite_eq_canonical addr (List.cons_ne_nil v []))
  case writeRegisters addr bytes =>
    have hb : bytes ≠ [] := fun h => hne (if_pos (congrArg List.length h))
    rw [encode, if_neg (mt List.eq_nil_of_length_eq_zero hb), decodeBus_write, decodeBusWrite_eq_canonical addr hb]
  case readRegister addr =>
    exact (decodeBus_read addr (List.replicate 1 0)).trans (decodeBusRead_eq_canonical addr Nat.one_ne_zero)
  case readRegisters addr count =>
    have hc : count ≠ 0 := fun h => hne (if_pos h)
    rw [encode, if_neg hc, decodeBus_read, decodeBusRead_eq_canonical addr hc]
  case writeFifo bytes =>
    have hb : bytes ≠ [] := fun h => hne (if_pos (congrArg List.length h))
    rw [encode, if_neg (mt List.eq_nil_of_length_eq_zero hb), decodeBus_write, decodeBusWrite_eq_canonical 0 hb,
      canonical_writeRegisters_fifo]
    rfl
  case readFifo count =>
    have hc : count ≠ 0 := fun h => hne (if_pos h)
    rw [encode, if_neg hc, decodeBus_read, decodeBusRead_eq_canonical 0 hc, canonical_readRegisters_fifo]
    rfl
  all_goals exact nomatch hf

/-- The well-formed bus primitives are those in their canonical spelling. -/
theorem canonical_of_wellFormed {i : Instr} (hw : i.wellFormed = true) : i.canonical = i := by
  cases i
  case writeRegister addr v => exact if_neg (bne_iff_ne.1 hw)
  case writeRegisters addr bytes =>
    obtain ⟨ha, hb⟩ := Bool.and_eq_true_iff.1 hw
    match bytes, of_decide_eq_true hb with
    | v :: w :: rest, _ => exact if_neg (bne_iff_ne.1 ha)
  case readRegister addr => exact if_neg (bne_iff_ne.1 hw)
  case readRegisters addr count =>
    obtain ⟨ha, hc⟩ := Bool.and_eq_true_iff.1 hw
    match count, of_decide_eq_true hc with
    | k + 2, _ => exact if_neg (bne_iff_ne.1 ha)
  all_goals rfl

theorem decodeBus_encode_of_wellFormed {i : Instr} (hf : i.format = .bus) (hw : i.wellFormed = true)
    (hlen : 2 ≤ (encode i).length) : decodeBus (encode i) = .ok i := by
  have hne : encode i ≠ [] := List.ne_nil_of_length_pos (by omega)
  rw [decodeBus_encode hf hne, canonical_of_wellFormed hw]

end Sys2Proof

section

open Sys2Proof Sys2Proof.Machine

/-- Settles O1: each instruction's frame is read back operand by operand; an arm closed by `rfl` has only single-byte
operands. -/
theorem decodeEncode : Obligations.DecodeEncode := by
  intro i hw
  cases i with
  | initRadio callbacks => rfl
  | setChannel freqHz => exact congrArg (fun v => Decoded.ok (.setChannel v)) (u32_of_bytes freqHz)
  | getStatus => rfl
  | sleep => rfl
  | standby => rfl
  | setRxConfig args => exact decodeCommand_setRxConfig args
  | setTxConfig args => exact decodeCommand_setTxConfig args
  | send size buffer => exact decodeCommand_send (beq_iff_eq.1 hw)
  | receive => rfl
  | startCad => rfl
  | setTxContinuousWave freq power duration => exact decodeCommand_setTxContinuousWave freq power duration
  | setMaxPayloadLength modem max => exact withModem_code _ modem [max] _
  | setPublicNetwork enabled => exact congrArg (fun b => Decoded.ok (.setPublicNetwork b)) (boolByte_ne_zero enabled)
  | performCarrierSense modem freq threshold duration =>
    exact decodeCommand_performCarrierSense modem freq threshold duration
  | timeOnAir modem payloadLen => exact withModem_code _ modem [payloadLen] _
  | random => rfl
  | checkRfFrequency freq => exact congrArg (fun v => Decoded.ok (.checkRfFrequency v)) (u32_of_bytes freq)
  | lock => rfl
  | unlock => rfl
  | dio0Irq | dio1Irq | dio2Irq | dio3Irq | dio4Irq | dio5Irq | timeoutIrq => rfl
  | writeRegister addr value =>
    exact decodeBus_encode_of_wellFormed rfl hw (Laws.FrameLength.writeRegister addr value hw)
  | writeRegisters addr bytes =>
    exact decodeBus_encode_of_wellFormed rfl hw (Laws.FrameLength.writeRegisters addr bytes hw)
  | readRegister addr =>
    exact decodeBus_encode_of_wellFormed rfl hw (Laws.FrameLength.readRegister addr hw)
  | readRegisters addr count =>
    exact decodeBus_encode_of_wellFormed rfl hw (Laws.FrameLength.readRegisters addr count hw)
  | writeFifo bytes =>
    exact decodeBus_encode_of_wellFormed rfl hw (Laws.FrameLength.writeFifo bytes hw)
  | readFifo count =>
    exact decodeBus_encode_of_wellFormed rfl hw (Laws.FrameLength.readFifo count hw)
  | setOperationMode mode => exact withMode_code _ mode _
  | setModem kind => exact withModem_code _ kind [] _
  | radioReset => rfl
  | transmit timeoutMs => exact congrArg (fun v => Decoded.ok (.transmit v)) (u32_of_bytes timeoutMs)
  | setAntennaSwitch mode => exact withMode_code _ mode _
  | antennaLowPower => rfl
  | loadDefaultRegisters => rfl
  | setRfTxPower power => rfl
  | fskBandwidthCode bwHz => exact congrArg (fun v => Decoded.ok (.fskBandwidthCode v)) (u32_of_bytes bwHz)
  | txPowerEncode power path => exact decodeMicro_txPowerEncode power path
  | fskTimeOnAir a b c d e r =>
    obtain ⟨ha, hb, hc, hd, he, hr⟩ :
        a < 2 ^ 32 ∧ b < 2 ^ 32 ∧ c < 2 ^ 32 ∧ d < 2 ^ 32 ∧ e < 2 ^ 32 ∧ r < 2 ^ 32 := by
      simpa [Instr.wellFormed] using hw
    exact decodeMicro_fskTimeOnAir ha hb hc hd he hr
  | loraTimeOnAir bw sf cr pre len crcOn fixedLen ldro =>
    obtain ⟨hbw, hsf, hcr, hpre, hlen⟩ :
        bw < 2 ^ 32 ∧ sf < 2 ^ 32 ∧ cr < 2 ^ 32 ∧ pre < 2 ^ 32 ∧ len < 2 ^ 32 := by
      simpa [Instr.wellFormed] using hw
    exact decodeMicro_loraTimeOnAir hbw hsf hcr hpre hlen crcOn fixedLen ldro
  | fskRxAbort => rfl

end

namespace Sys2Proof.Machine

/-! ### What the checks of a command frame let through (R81, R86, R94) -/

theorem ofLength_eq_ok {f : List Byte} {n : Nat} {d : Decoded} {i : Instr} :
    ofLength f n d = .ok i ↔ f.length = n ∧ d = .ok i := by
  rw [ofLength]
  split <;> simp [*]

theorem ofByte_eq_some {b : Byte} {m : ModemKind} : ModemKind.ofByte b = some m ↔ m.code = b := by
  refine ⟨fun h => ?_, fun h => h ▸ ModemKind.ofByte_code m⟩
  rw [ModemKind.ofByte] at h
  split at h
  case isTrue h0 => exact Option.some.inj h ▸ h0.symm
  case isFalse =>
    split at h
    case isTrue h1 => exact Option.some.inj h ▸ h1.symm
    case isFalse => exact nomatch h

theorem withModem_eq_ok {f : List Byte} {d : ModemKind → Instr} {i : Instr} :
    withModem f d = .ok i ↔ ∃ m : ModemKind, m.code = u8At f 1 ∧ d m = i := by
  simp only [← ofByte_eq_some]
  rw [withModem]
  cases ModemKind.ofByte (u8At f 1) <;> simp

theorem exists_modem_code {b : Byte} : (∃ m : ModemKind, m.code = b) ↔ b.toNat ≤ 1 := by
  constructor
  · rintro ⟨m, rfl⟩
    cases m <;> decide
  · intro h
    obtain h0 | h1 : b.toNat = 0 ∨ b.toNat = 1 := by omega
    · exact ⟨.fsk, BitVec.eq_of_toNat_eq h0.symm⟩
    · exact ⟨.lora, BitVec.eq_of_toNat_eq h1.symm⟩

/-! ### Which frames are commands (R94, R251) -/

/-- The length and `modem` checks of R94, which the decoder makes. -/
def PassesChecks (f : List Byte) : Prop :=
  commandLength f = some f.length ∧ (hasModem f = true → (u8At f 1).toNat ≤ 1)

theorem passesChecks_iff_of_length {f : List Byte} {n : Nat} (hlen : commandLength f = some n)
    (hmodem : hasModem f = false) (i : Instr) : (∃ j, ofLength f n (.ok i) = .ok j) ↔ PassesChecks f := by
  simp [ofLength_eq_ok, PassesChecks, hlen, hmodem, eq_comm]

theorem passesChecks_iff_of_modem {f : List Byte} {n : Nat} (hlen : commandLength f = some n)
    (hmodem : hasModem f = true) (d : ModemKind → Instr) :
    (∃ j, ofLength f n (withModem f d) = .ok j) ↔ PassesChecks f := by
  simp [ofLength_eq_ok, withModem_eq_ok, PassesChecks, hlen, hmodem, eq_comm (a := n), ← exists_modem_code]

/-- The decoder accepts exactly the frames that pass the two checks: each arm of it against R87's table of lengths. The arms
named first are those with a `modem` operand, then `SEND`, then the byte that is no opcode. -/
theorem decodeCommand_ok_iff {f : List Byte} (hf : f ≠ []) : (∃ i, decodeCommand f = .ok i) ↔ PassesChecks f := by
  rw [decodeCommand.eq_def]
  split
  case h_1 => exact absurd rfl hf
  case h_2 op rest =>
    have hop : u8At (op :: rest) 0 = op := rfl
    generalize op :: rest = f at *
    split
    case h_6 h | h_7 h | h_12 h | h_14 h | h_15 h =>
      exact passesChecks_iff_of_modem (by rw [commandLength, hop, h]; rfl) (by rw [hasModem, hop, h]; rfl) _
    case h_8 h =>
      have hlen : commandLength f = some (2 + (u8At f 1).toNat) := by
        rw [commandLength, hop, h]
        rfl
      split
      case isTrue hshort =>
        refine iff_of_false (fun ⟨_, h⟩ => nomatch h) fun ⟨hsome, _⟩ => ?_
        have hlong : 2 + (u8At f 1).toNat = f.length := Option.some.inj (hlen.symm.trans hsome)
        omega
      case isFalse => exact passesChecks_iff_of_length hlen (by rw [hasModem, hop, h]; rfl) _
    case h_20 =>
      have hlen : commandLength f = none := by
        rw [commandLength, hop]
        split
        case h_20 => rfl
        all_goals contradiction
      exact iff_of_false (fun ⟨_, h⟩ => nomatch h) fun ⟨hsome, _⟩ => nomatch hlen.symm.trans hsome
    all_goals
      next h => exact passesChecks_iff_of_length (by rw [commandLength, hop, h]; rfl) (by rw [hasModem, hop, h]; rfl) _

/-! ### The frame an accepted command came from (R86, R87) -/

theorem le16_u16At (f : List Byte) (k : Nat) : le16 (u16At f k) = [u8At f k, u8At f (k + 1)] := by
  rw [le16, u16At, BitVec.extractLsb'_append_eq_right, BitVec.extractLsb'_append_eq_left]

theorem le32_u32At (f : List Byte) (k : Nat) :
    le32 (u32At f k) = [u8At f k, u8At f (k + 1), u8At f (k + 2), u8At f (k + 3)] := by
  have hlow (start : Nat) (h : start + 8 ≤ 16) : (u32At f k).extractLsb' start 8 = (u16At f k).extractLsb' start 8 :=
    BitVec.extractLsb'_append_eq_of_add_le h
  have hhigh (start : Nat) (h : 16 ≤ start) :
      (u32At f k).extractLsb' start 8 = (u16At f (k + 2)).extractLsb' (start - 16) 8 :=
    BitVec.extractLsb'_append_eq_of_le h
  have hall : le32 (u32At f k) = le16 (u16At f k) ++ le16 (u16At f (k + 2)) := by
    rw [le32, hlow 0 (by decide), hlow 8 (by decide), hhigh 16 (by decide), hhigh 24 (by decide)]
    rfl
  rw [hall, le16_u16At, le16_u16At]
  rfl

/-- The byte an instruction's own frame has where a frame that decodes to it has the byte at offset `k`: a `bool` operand
is written as 0 or 1, every other byte as it was read (R86, R89). -/
def canonicalByte (i : Instr) (f : List Byte) (k : Nat) : Byte :=
  if boolOffset i k then boolByte (boolAt f k) else u8At f k

theorem eq_map_u8At (f : List Byte) : f = (List.range f.length).map (u8At f) := by
  refine List.ext_getElem (by simp) fun k hk _ => ?_
  simp [u8At, hk]

/-- A frame that decodes is the frame of the well-formed command it decodes to, but for its `bool` bytes. The arms are named as
in `decodeCommand_ok_iff`. -/
theorem encode_of_decodeCommand {f : List Byte} {i : Instr} (hd : decodeCommand f = .ok i) :
    i.format = .command ∧ i.wellFormed = true ∧ encode i = (List.range f.length).map (canonicalByte i f) := by
  rw [decodeCommand.eq_def] at hd
  split at hd
  case h_1 => exact nomatch hd
  case h_2 op rest =>
    have hop : u8At (op :: rest) 0 = op := rfl
    generalize op :: rest = f at *
    subst hop
    split at hd
    case h_6 h | h_7 h | h_12 h | h_14 h | h_15 h =>
      obtain ⟨hlen, hd⟩ := ofLength_eq_ok.1 hd
      obtain ⟨m, hm, rfl⟩ := withModem_eq_ok.1 hd
      refine ⟨rfl, rfl, ?_⟩
      simp only [encode, rxConfigArgs, txConfigArgs, le16_u16At, le32_u32At, hlen, hm]
      exact congrArg₂ List.cons (BitVec.eq_of_toNat_eq h.symm) rfl
    case h_8 h =>
      split at hd
      case isTrue => exact nomatch hd
      case isFalse hlong =>
        obtain ⟨hlen, hd⟩ := ofLength_eq_ok.1 hd
        obtain rfl := Decoded.ok.inj hd
        refine ⟨rfl, ?_, ?_⟩
        · exact beq_iff_eq.2 (by rw [List.length_drop]; omega)
        · refine .trans ?_ (eq_map_u8At f)
          match f, hlong with
          | a :: b :: rest, _ => exact congrArg₂ List.cons (BitVec.eq_of_toNat_eq h.symm) rfl
          | [a], hlong => exact absurd Nat.one_lt_two hlong
          | [], hlong => exact absurd Nat.two_pos hlong
    case h_20 => exact nomatch hd
    all_goals
      next h =>
        obtain ⟨hlen, hd⟩ := ofLength_eq_ok.1 hd
        obtain rfl := Decoded.ok.inj hd
        refine ⟨rfl, rfl, ?_⟩
        simp only [encode, le16_u16At, le32_u32At, hlen]
        exact congrArg₂ List.cons (BitVec.eq_of_toNat_eq h.symm) rfl

theorem u8At_map_range (c : Nat → Byte) {n k : Nat} (hk : k < n) : u8At ((List.range n).map c) k = c k := by
  simp [u8At, hk]

theorem u8At_of_length_le {f : List Byte} {k : Nat} (hk : f.length ≤ k) : u8At f k = 0 := List.getD_eq_default f 0 hk

theorem boolByte_injective : Function.Injective boolByte :=
  Function.LeftInverse.injective (g := fun b => b != 0) boolByte_ne_zero

/-- Only a `bool` operand's byte is not determined by the canonical byte (R86). -/
theorem byte_eq_or_bool {i : Instr} {f g : List Byte} {k : Nat} (h : canonicalByte i f k = canonicalByte i g k) :
    u8At f k = u8At g k ∨ (boolOffset i k = true ∧ u8At f k ≠ 0 ∧ u8At g k ≠ 0) := by
  rw [canonicalByte, canonicalByte] at h
  by_cases hb : boolOffset i k = true
  · rw [if_pos hb, if_pos hb] at h
    have hzero : u8At f k ≠ 0 ↔ u8At g k ≠ 0 := by
      rw [← bne_iff_ne, ← bne_iff_ne]
      exact Bool.eq_iff_iff.1 (boolByte_injective h)
    by_cases hf : u8At f k = 0
    · have hg : u8At g k = 0 := not_not.1 (mt hzero.2 (not_not.2 hf))
      exact .inl (hf.trans hg.symm)
    · exact .inr ⟨hb, hf, hzero.1 hf⟩
  · rw [if_neg hb, if_neg hb] at h
    exact .inl h

/-! ### Refused frames (R94) -/

theorem refusedFrame_eq_true_iff {n : Nat} {f : List Byte} :
    refusedFrame n f = true ↔ f = [] ∨ ¬ PassesChecks f ∨ (u8At f 0 = 0x07 ∧ n < (u8At f 1).toNat) := by
  simp only [refusedFrame, PassesChecks, Bool.or_eq_true, Bool.and_eq_true, decide_eq_true_eq, beq_iff_eq, not_and_or,
    Classical.not_imp, Nat.not_le, or_assoc]

theorem refusedFrame_eq_false_iff {n : Nat} {f : List Byte} :
    refusedFrame n f = false ↔ f ≠ [] ∧ PassesChecks f ∧ ¬ (u8At f 0 = 0x07 ∧ n < (u8At f 1).toNat) := by
  rw [← Bool.not_eq_true, refusedFrame_eq_true_iff, not_or, not_or, not_not]

/-- A frame with the opcode 0x07 is a `SEND` of its size byte (R87). -/
theorem decodeCommand_eq_send {f : List Byte} {i : Instr} (hd : decodeCommand f = .ok i) (h : u8At f 0 = 0x07) :
    i = .send (u8At f 1) (f.drop 2) := by
  match f with
  | [] => exact nomatch hd
  | op :: rest =>
    obtain rfl : op = 0x07 := h
    rw [decodeCommand_cons_send] at hd
    split at hd
    case isTrue => exact nomatch hd
    case isFalse =>
      obtain ⟨-, hd⟩ := ofLength_eq_ok.1 hd
      exact (Decoded.ok.inj hd).symm

theorem execSend_of_not_inBuffer {size : Byte} {s : State} (h : s.cfg.maxDataBufferSize < size.toNat)
    (buffer : List Byte) : execSend size buffer s = .next (s.after 0 [.response [0x02]]) := by
  refine (if_neg fun ⟨_, hin⟩ => ?_).trans (congrArg Host.Outcome.next (raiseError_eq .refused s))
  have hfit : 0 + size.toNat ≤ s.cfg.maxDataBufferSize := of_decide_eq_true hin
  omega

theorem runFrame_of_rejected {f : List Byte} (h : ¬ ∃ i, decodeCommand f = .ok i) (s : State) :
    runFrame f s = .next (s.after 0 [.response [0x02]]) := by
  rw [runFrame]
  cases hd : decodeCommand f with
  | ok i => exact absurd ⟨i, hd⟩ h
  | rejected e => exact congrArg Host.Outcome.next (raiseError_eq .refused s)

/-! ### The spellings of a bus primitive (R97; log entry 17) -/

theorem exec_writeRegister (addr : Addr) (v : Byte) (s : State) :
    exec (.writeRegister addr v) s = exec (.writeRegisters addr [v]) s := rfl

theorem exec_readRegister (addr : Addr) (s : State) :
    exec (.readRegister addr) s = exec (.readRegisters addr 1) s := rfl

theorem exec_writeFifo (bytes : List Byte) (s : State) :
    exec (.writeFifo bytes) s = exec (.writeRegisters 0 bytes) s := rfl

theorem exec_readFifo (n : Nat) (s : State) : exec (.readFifo n) s = exec (.readRegisters 0 n) s := rfl

theorem exec_canonical_writeRegisters (addr : Addr) (bytes : List Byte) (s : State) :
    exec (Instr.writeRegisters addr bytes).canonical s = exec (.writeRegisters addr bytes) s := by
  by_cases ha : addr = 0
  · rw [ha, canonical_writeRegisters_fifo, exec_writeFifo]
  · match bytes with
    | [v] => exact (congrArg (exec · s) (if_neg ha)).trans (exec_writeRegister addr v s)
    | [] | v :: w :: rest => exact congrArg (exec · s) (if_neg ha)

theorem exec_canonical_readRegisters (addr : Addr) (n : Nat) (s : State) :
    exec (Instr.readRegisters addr n).canonical s = exec (.readRegisters addr n) s := by
  by_cases ha : addr = 0
  · rw [ha, canonical_readRegisters_fifo, exec_readFifo]
  · match n with
    | 1 => exact (congrArg (exec · s) (if_neg ha)).trans (exec_readRegister addr s)
    | 0 | k + 2 => exact congrArg (exec · s) (if_neg ha)

/-- The canonical spelling of an instruction has its effect. -/
theorem exec_canonical (i : Instr) (s : State) : exec i.canonical s = exec i s := by
  cases i
  case writeRegister addr v => exact exec_canonical_writeRegisters addr [v] s
  case writeRegisters addr bytes => exact exec_canonical_writeRegisters addr bytes s
  case readRegister addr => exact exec_canonical_readRegisters addr 1 s
  case readRegisters addr n => exact exec_canonical_readRegisters addr n s
  all_goals rfl

/-! ### Batches (R91) -/

theorem toList_if_some (c : Bool) (i : Instr) : (if c then some i else none).toList = if c then [i] else [] := by
  cases c <;> rfl

end Sys2Proof.Machine

section

open Sys2Proof Sys2Proof.Machine

/-- Settles O2: both frames are the instruction's own frame but for its `bool` bytes. -/
theorem commandFramesDecodeApart : Obligations.CommandFramesDecodeApart := by
  intro f g i hf hg
  obtain ⟨hformat, hwf, hencf⟩ := encode_of_decodeCommand hf
  obtain ⟨-, -, hencg⟩ := encode_of_decodeCommand hg
  have hsame : (List.range f.length).map (canonicalByte i f) = (List.range g.length).map (canonicalByte i g) :=
    hencf.symm.trans hencg
  have hlen : f.length = g.length := by simpa using congrArg List.length hsame
  refine ⟨hformat, hwf, hlen, fun k => ?_⟩
  by_cases hk : k < f.length
  · have hbyte := congrArg (u8At · k) hsame
    simp only [u8At_map_range _ hk, u8At_map_range _ (hlen ▸ hk)] at hbyte
    exact byte_eq_or_bool hbyte
  · exact .inl ((u8At_of_length_le (by omega)).trans (u8At_of_length_le (by omega)).symm)

/-- Settles O3: the decoder makes the first three checks of R94, `execSend` the last. -/
theorem refusedFrames : Obligations.RefusedFrames := by
  intro f s
  refine ⟨fun h => ?refused, fun h => ?runs⟩
  case refused =>
    by_cases hd : ∃ i, decodeCommand f = .ok i
    · obtain ⟨i, hi⟩ := hd
      have hne : f ≠ [] := by rintro rfl; exact nomatch hi
      obtain h | h | ⟨hsend, hbig⟩ := refusedFrame_eq_true_iff.1 h
      · exact absurd h hne
      · exact absurd ((decodeCommand_ok_iff hne).1 ⟨i, hi⟩) h
      · rw [runFrame_of_decode hi, decodeCommand_eq_send hi hsend]
        exact execSend_of_not_inBuffer hbig _
    · exact runFrame_of_rejected hd s
  case runs =>
    obtain ⟨hne, hpass, -⟩ := refusedFrame_eq_false_iff.1 h
    obtain ⟨i, hi⟩ := (decodeCommand_ok_iff hne).2 hpass
    obtain ⟨hformat, -, -⟩ := encode_of_decodeCommand hi
    exact ⟨i, hi, hformat, runFrame_of_decode hi⟩

/-- Settles O6: every spelling has the effect of the register burst it is short for. -/
theorem busAliases : Obligations.BusAliases :=
  ⟨exec_writeFifo, exec_readFifo, exec_writeRegister, exec_readRegister, exec_canonical, fun _ => decodeBus_encode⟩

/-- Settles O4: each word is the frame of its instruction. -/
theorem decodedWords : Obligations.DecodedWords :=
  ⟨decodeEncode (.setChannel 868100000) rfl, decodeEncode (.send 3 [1, 2, 3]) rfl,
    decodeEncode (.setTxContinuousWave 868100000 14 5) rfl, decodeEncode .timeoutIrq rfl,
    decodeEncode (.writeRegister 0x01 0x81) rfl, decodeEncode (.writeRegisters 0x06 [0xD9, 0x06, 0x66]) rfl,
    decodeEncode (.readRegisters 0x1B 2) rfl, decodeEncode (.writeFifo [0x03]) rfl⟩

/-- Settles O5: the seven indices tested in turn, each contributing its handler or nothing. -/
theorem batchOrder : Obligations.BatchOrder := by
  intro b
  have hrange : List.range 7 = [0, 1, 2, 3, 4, 5, 6] := rfl
  rw [decodeBatch, List.filterMap_eq_flatMap_toList, hrange]
  simp only [List.flatMap_cons, List.flatMap_nil, handlerOf, toList_if_some, List.append_nil, List.append_assoc]

end

/-! The bus primitives (R110 to R116): each is one of the two register bursts, whose closed forms are said once. -/

namespace Sys2Proof.Machine

theorem exec_writeRegisters (addr : Addr) (bytes : List Byte) (s : State) :
    exec (.writeRegisters addr bytes) s = .next (s.after 0 (if bytes = [] then [] else [.busWrite addr bytes])) := by
  have hburst := regWriteBurst_eq addr bytes s
  simp only [List.length_eq_zero_iff] at hburst
  exact congrArg Host.Outcome.next hburst

theorem exec_readRegisters (addr : Addr) (n : Nat) (s : State) :
    exec (.readRegisters addr n) s =
      .next { s.after n (if n = 0 then [] else [.busRead addr (answersFrom s 0 n)]) with
        ret := .bytes (answersFrom s 0 n) } := by
  have hburst := regReadBurst_eq addr n s
  rw [answered_eq] at hburst
  exact congrArg (fun r => Host.Outcome.next (returns (.bytes r.1) r.2)) hburst

end Sys2Proof.Machine

section

open Sys2Proof Sys2Proof.Machine

/-- Settles O52: a single register is the burst of one byte, the FIFO the burst at address 0. -/
theorem busPrimitives : Obligations.BusPrimitives := by
  intro s addr v bytes n
  exact ⟨(exec_writeRegister addr v s).trans (exec_writeRegisters addr [v] s),
    exec_writeRegisters addr bytes s,
    (exec_writeFifo bytes s).trans (exec_writeRegisters 0 bytes s),
    (exec_readRegister addr s).trans (exec_readRegisters addr 1 s),
    exec_readRegisters addr n s,
    (exec_readFifo n s).trans (exec_readRegisters 0 n s)⟩

end

/-! The calculators (R120 to R129): what each function answers, said once. -/

namespace Sys2Proof.Machine

/-! ### The bandwidth table (R120) -/

theorem pairwise_of_bwAscending {T : List BwEntry} (h : bwAscending T = true) : T.Pairwise (fun a b => a.bw < b.bw) := by
  suffices hchain : T.IsChain (fun a b => a.bw < b.bw) by
    have : IsTrans BwEntry (fun a b => a.bw < b.bw) := ⟨fun _ _ _ => Nat.lt_trans⟩
    exact hchain.pairwise
  fun_induction bwAscending T with
  | case1 => exact .nil
  | case2 a => exact .singleton a
  | case3 a b rest ih =>
    obtain ⟨hab, hrest⟩ := Bool.and_eq_true_iff.1 h
    exact .cons_cons (of_decide_eq_true hab) (ih hrest)

theorem pairwise_fskBwTable {c : Config} (h : c.wellFormed = true) :
    c.fskBwTable.Pairwise (fun a b => a.bw < b.bw) := by
  simp only [Config.wellFormed, Bool.and_eq_true] at h
  obtain ⟨-, hasc⟩ := h
  exact pairwise_of_bwAscending hasc

/-- Over an ascending table the pair that brackets the request is the first one the scan meets. -/
theorem bandwidthCode_of_bracket {T : List BwEntry} {bw i : Nat} (hasc : T.Pairwise (fun a b => a.bw < b.bw))
    (hi : i + 1 < T.length) (hlo : T[i].bw ≤ bw) (hhi : bw < T[i + 1].bw) : bandwidthCode T bw = some T[i].code := by
  induction T generalizing i with
  | nil => exact absurd hi (Nat.not_lt_zero _)
  | cons a T ih =>
    obtain ⟨-, hT⟩ := List.pairwise_cons.1 hasc
    match T, i with
    | [], i => exact absurd (Nat.lt_of_succ_lt_succ hi) (Nat.not_lt_zero i)
    | b :: rest, 0 => exact if_pos ⟨hlo, hhi⟩
    | b :: rest, i + 1 =>
      have hb : b.bw ≤ bw := by
        obtain ⟨hhead, -⟩ := List.pairwise_cons.1 hT
        match i with
        | 0 => exact hlo
        | j + 1 => exact (hhead _ (List.getElem_mem (by simp only [List.length_cons] at hi; omega))).le.trans hlo
      have hpast : ¬ (a.bw ≤ bw ∧ bw < b.bw) := fun h => hb.not_gt h.2
      exact (if_neg hpast).trans (ih hT (by simpa using hi) hlo hhi)

theorem bandwidthCode_eq_none {T : List BwEntry} {bw : Nat} (h : ∀ a ∈ T, ∀ b ∈ T, ¬ (a.bw ≤ bw ∧ bw < b.bw)) :
    bandwidthCode T bw = none := by
  fun_induction bandwidthCode T bw with
  | case1 | case2 => rfl
  | case3 a b rest _ hin => exact absurd hin (h a List.mem_cons_self b (List.mem_cons_of_mem a List.mem_cons_self))
  | case4 a b rest _ _ ih =>
    exact ih fun c hc d hd => h c (List.mem_cons_of_mem a hc) d (List.mem_cons_of_mem a hd)

/-- A bound on the first entry of an ascending table bounds every entry. -/
theorem lt_bw_of_lt_first {T : List BwEntry} {bw : Nat} (hasc : T.Pairwise (fun a b => a.bw < b.bw))
    (h : ∀ i, (hi : i < T.length) → i = 0 → bw < T[i].bw) : ∀ e ∈ T, bw < e.bw := by
  intro e he
  obtain ⟨i, hi, rfl⟩ := List.getElem_of_mem he
  have hfirst := h 0 (by omega) rfl
  obtain rfl | hpos := Nat.eq_zero_or_pos i
  · exact hfirst
  · exact hfirst.trans (List.pairwise_iff_getElem.1 hasc 0 i _ hi hpos)

/-- A bound on the last entry of an ascending table bounds every entry. -/
theorem bw_le_of_last_le {T : List BwEntry} {bw : Nat} (hasc : T.Pairwise (fun a b => a.bw < b.bw))
    (h : ∀ i, (hi : i < T.length) → i + 1 = T.length → T[i].bw ≤ bw) : ∀ e ∈ T, e.bw ≤ bw := by
  intro e he
  obtain ⟨i, hi, rfl⟩ := List.getElem_of_mem he
  have hlast := h (T.length - 1) (by omega) (by omega)
  obtain rfl | hlt := Nat.eq_or_lt_of_le (Nat.le_sub_one_of_lt hi)
  · exact hlast
  · exact (List.pairwise_iff_getElem.1 hasc i _ hi (by omega) hlt).le.trans hlast

theorem exec_fskBandwidthCode (bw : Word) (s : State) :
    exec (.fskBandwidthCode bw) s =
      .next { s with ret := (bandwidthCode s.cfg.fskBwTable bw.toNat).elim (.invalidBandwidth bw) .code } := by
  change execFskBandwidthCode bw s = _
  rw [execFskBandwidthCode]
  cases bandwidthCode s.cfg.fskBwTable bw.toNat <;> rfl

/-! ### Transmit power (R123, R124) -/

theorem toNat_ofInt_four {x : Int} (h0 : 0 ≤ x) (h15 : x ≤ 15) : ((BitVec.ofInt 4 x).toNat : Int) = x := by
  rw [BitVec.toNat_ofInt]
  omega

theorem txPowerEncode_boost_iff (power : Int) (path : PaPath) :
    (txPowerEncode power path).boost20 = true ↔ path = .paBoost ∧ power > 17 := by
  cases path with
  | rfo => simp [txPowerEncode]
  | paBoost => by_cases h : power > 17 <;> simp [txPowerEncode, h]

theorem txPowerEncode_rfo (power : Int) :
    (txPowerEncode power .rfo).p = max (-1) (min power 14) ∧
      ((txPowerEncode power .rfo).field.toNat : Int) = (txPowerEncode power .rfo).p + 1 := by
  refine ⟨rfl, toNat_ofInt_four ?_ ?_⟩ <;> (rw [clamp]; omega)

theorem txPowerEncode_paBoost_of_le {power : Int} (h : power ≤ 17) :
    (txPowerEncode power .paBoost).p = max 2 power ∧
      ((txPowerEncode power .paBoost).field.toNat : Int) = (txPowerEncode power .paBoost).p - 2 := by
  rw [txPowerEncode, if_neg (by omega)]
  refine ⟨?_, toNat_ofInt_four ?_ ?_⟩ <;> (dsimp only [clamp]; omega)

theorem txPowerEncode_paBoost_of_gt {power : Int} (h : power > 17) :
    (txPowerEncode power .paBoost).p = min power 20 ∧
      ((txPowerEncode power .paBoost).field.toNat : Int) = (txPowerEncode power .paBoost).p - 5 := by
  rw [txPowerEncode, if_pos h]
  refine ⟨?_, toNat_ofInt_four ?_ ?_⟩ <;> (dsimp only [clamp]; omega)

theorem paConfigValue_eq (r : RegMap) (path : PaPath) (pa : Byte) (field : BitVec 4) :
    paConfigValue r path pa field =
      ((((pa &&& r.paSelectMask) ||| (if path = .paBoost then r.paSelect else 0)) &&& r.paPowerMask)
        ||| field.setWidth 8) := by
  cases path <;> rfl

theorem paDacValue_eq (r : RegMap) (path : PaPath) (dac : Byte) (boost20 : Bool) :
    paDacValue r path dac boost20 =
      if path = .paBoost then (dac &&& r.paDac20dBmMask) ||| (if boost20 then r.paDac20dBmOn else r.paDac20dBmOff)
      else dac := by
  cases path <;> rfl

theorem exec_txPowerEncode (power : Byte) (path : PaPath) (s : State) :
    exec (.txPowerEncode power path) s = .next { s with
      ret := .txPower (txPowerEncode power.toInt path).p (txPowerEncode power.toInt path).boost20
        (txPowerEncode power.toInt path).field } := rfl

theorem exec_setRfTxPower (power : Byte) (s : State) :
    exec (.setRfTxPower power) s = .next (s.after 2 (powerEvents s.cfg (answer s) 0 power)) :=
  congrArg Host.Outcome.next (setRfTxPower_eq power s)

/-! ### Airtime (R126 to R128) -/

/-- Rounding to the nearest, halves up, in whole numbers (R127). -/
theorem round_natCast_div (n : Nat) {r : Nat} (hr : 0 < r) :
    round ((n : ℚ) / r) = ((2 * n + r) / (2 * r) : Nat) := by
  have hr' : (r : ℚ) ≠ 0 := Nat.cast_ne_zero.2 hr.ne'
  have hhalf : (n : ℚ) / r + 1 / 2 = ((2 * n + r : Nat) : ℚ) / ((2 * r : Nat) : ℚ) := by
    push_cast
    field_simp
  rw [round_eq, hhalf, Rat.floor_natCast_div_natCast, Int.natCast_ediv]

theorem ceilDiv_eq_ceil (a : Int) {b : Int} (hb : 0 ≤ b) : ceilDiv a b = ⌈(a : ℚ) / b⌉ := by
  lift b to Nat using hb
  exact (Rat.ceil_intCast_div_natCast a b).symm

theorem le_ceilDiv {k a b : Int} (hb : 0 < b) (h : k * b ≤ a) : k ≤ ceilDiv a b := by
  have hdiv : -a / b ≤ -k := Int.ediv_le_of_le_mul hb (by rw [neg_mul]; omega)
  rw [ceilDiv]
  omega

theorem fskTimeOnAir_zero (p y a l c : Nat) : fskTimeOnAir p y a l c 0 = none := rfl

theorem fskTimeOnAir_of_pos (p y a l c : Nat) {r : Nat} (hr : 0 < r) :
    fskTimeOnAir p y a l c r = some ((16000 * (p + y + a + l + c) + r) / (2 * r)) := if_neg hr.ne'

theorem fskTimeOnAir_eq_round (p y a l c : Nat) {r : Nat} (hr : 0 < r) :
    fskTimeOnAir p y a l c r = some (round ((8 * (p + y + a + l + c) * 1000 : ℚ) / r)).toNat := by
  have hcast : (8 * (p + y + a + l + c) * 1000 : ℚ) = ((8000 * (p + y + a + l + c) : Nat) : ℚ) := by
    push_cast
    ring
  rw [fskTimeOnAir_of_pos p y a l c hr, hcast, round_natCast_div _ hr, Int.toNat_natCast, ← Nat.mul_assoc]

theorem two_mul_bit (b : Bool) : 2 * bit b = if b then 2 else 0 := by cases b <;> rfl

theorem mul_bit_cast (k : ℚ) (b : Bool) : k * (bit b : ℚ) = if b then k else 0 := by cases b <;> simp [bit]

theorem loraTimeOnAir_eq_none {bw sf : Nat} {ldro : Bool} (h : (sf : Int) ≤ 2 * bit ldro ∨ bw = 0) (cr p l : Nat)
    (crc fixed : Bool) : loraTimeOnAir bw sf cr p l crc fixed ldro = none := if_pos h

theorem loraTimeOnAir_eq_some {bw sf : Nat} {ldro : Bool} (h : ¬ ((sf : Int) ≤ 2 * bit ldro ∨ bw = 0)) (cr p l : Nat)
    (crc fixed : Bool) :
    loraTimeOnAir bw sf cr p l crc fixed ldro =
      some (ceilDiv ((4 * (p : Int) + 17 + 4 * loraPayloadSymbols sf cr l crc fixed ldro) * 2 ^ sf * 250) bw).toNat :=
  if_neg h

/-- The payload symbol count is that of the formula over the rationals. -/
theorem loraPayloadSymbols_cast {sf : Nat} {ldro : Bool} (h : 2 * bit ldro < (sf : Int)) (cr l : Nat) (crc fixed : Bool) :
    (loraPayloadSymbols sf cr l crc fixed ldro : ℚ) =
      8 + max ((⌈(8 * l - 4 * sf + 28 + (if crc then 16 else 0) - (if fixed then 20 else 0) : ℚ) /
        (4 * (sf - (2 * bit ldro : Int)))⌉ : ℚ) * (cr + 4)) 0 := by
  rw [loraPayloadSymbols, ceilDiv_eq_ceil _ (by omega : 0 ≤ 4 * ((sf : Int) - 2 * bit ldro))]
  push_cast
  simp only [mul_bit_cast]

/-- The formula with its quarter cleared (R128) is the same rational. -/
theorem loraTimeOnAir_eq_ceil {bw sf : Nat} {ldro : Bool} (hsf : 2 * bit ldro < (sf : Int)) (hbw : 0 < bw) (cr p l : Nat)
    (crc fixed : Bool) :
    loraTimeOnAir bw sf cr p l crc fixed ldro =
      some ⌈((p : ℚ) + 17 / 4 + (loraPayloadSymbols sf cr l crc fixed ldro : ℚ)) * (2 ^ sf / bw) * 1000⌉.toNat := by
  rw [loraTimeOnAir_eq_some (by omega), ceilDiv_eq_ceil _ (Int.natCast_nonneg bw)]
  congr 3
  push_cast
  ring

theorem exec_fskTimeOnAir (p y a l c r : Nat) (s : State) :
    exec (.fskTimeOnAir p y a l c r) s = .next { s with ret := msReturned (fskTimeOnAir p y a l c r) } := rfl

theorem exec_loraTimeOnAir (bw sf cr p l : Nat) (crc fixed ldro : Bool) (s : State) :
    exec (.loraTimeOnAir bw sf cr p l crc fixed ldro) s =
      .next { s with ret := msReturned (loraTimeOnAir bw sf cr p l crc fixed ldro) } := rfl

/-! ### `TIME_ON_AIR` (R129, R222, R223) -/

theorem loraBwHz_eq_some_iff (b hz : Nat) : loraBwHz b = some hz ↔
    ((b = 125000 ∨ b = 0) ∧ hz = 125000) ∨ ((b = 250000 ∨ b = 1) ∧ hz = 250000) ∨
      ((b = 500000 ∨ b = 2) ∧ hz = 500000) := by
  rw [loraBwHz]
  split_ifs with h0 h1 h2
  · simp only [Option.some.injEq]; omega
  · simp only [Option.some.injEq]; omega
  · simp only [Option.some.injEq]; omega
  · simp only [false_iff]; omega

theorem loraBwHz_bounds {b hz : Nat} (h : loraBwHz b = some hz) : 0 < hz ∧ hz ≤ 500000 := by
  have := (loraBwHz_eq_some_iff b hz).1 h
  omega

theorem respondMs_word (ms : Word) (s : State) : respondMs (some ms.toNat) s = s.after 0 [okResponse (le32 ms)] := by
  rw [respondMs, if_pos ms.isLt, BitVec.ofNat_toNat, BitVec.setWidth_eq, respond_eq]

theorem respondMs_of_not_word {o : Option Nat} (h : ¬ ∃ ms : Word, o = some ms.toNat) (s : State) :
    respondMs o s = s.after 0 [.response [0x02]] := by
  cases o with
  | none => rfl
  | some n =>
    have hbig : ¬ n < 2 ^ 32 := fun hn => h ⟨BitVec.ofNat 32 n, by rw [BitVec.toNat_ofNat, Nat.mod_eq_of_lt hn]⟩
    exact if_neg hbig

theorem addrFilterByte_eq (r : RegMap) (v : Byte) :
    addrFilterByte r v = if v &&& ~~~r.addrsFilteringMask = 0 then 0 else 1 := by
  simp only [addrFilterByte, flagSet, bne_iff_ne, ne_eq, ite_not]

theorem addrFilterByte_le_one (r : RegMap) (v : Byte) : addrFilterByte r v ≤ 1 := by
  rw [addrFilterByte]
  split <;> omega

/-- The FSK airtime of any stored configuration fits 32 bits (R222). -/
theorem fskTimeOnAir_fits {p y a l c r : Nat} (hr : 0 < r) (h : 16000 * (p + y + a + l + c) < 2 ^ 32) :
    ∃ ms : Word, fskTimeOnAir p y a l c r = some ms.toNat := by
  have hlt : (16000 * (p + y + a + l + c) + r) / (2 * r) < 2 ^ 32 := by
    rw [Nat.div_lt_iff_lt_mul (by omega)]
    nlinarith
  exact ⟨BitVec.ofNat 32 _, by rw [fskTimeOnAir_of_pos _ _ _ _ _ hr, BitVec.toNat_ofNat, Nat.mod_eq_of_lt hlt]⟩

theorem timeOnAirFsk_zero {s : State} (h : s.fsk.datarate = 0) (n : Byte) :
    timeOnAirFsk n s = s.after 0 [.response [0x02]] := if_pos h

theorem timeOnAirFsk_eq {s : State} (h : s.fsk.datarate ≠ 0) (n : Byte) :
    timeOnAirFsk n s =
      respondMs (fskTimeOnAir s.fsk.preambleLen.toNat (syncWordLen s.cfg.regmap (answer s 0))
        (addrFilterByte s.cfg.regmap (answer s 1)) n.toNat (if s.fsk.crcOn then 2 else 0) s.fsk.datarate.toNat)
        (s.after 2 [readOf s.cfg.regmap.syncConfig (answer s 0), readOf s.cfg.regmap.packetConfig1 (answer s 1)]) := by
  rw [timeOnAirFsk, if_neg h]
  simp only [regRead_eq, answer_after, after_after]
  rfl

theorem exec_timeOnAir_fsk (n : Byte) (s : State) : exec (.timeOnAir .fsk n) s = .next (timeOnAirFsk n s) := rfl

theorem exec_timeOnAir_lora (n : Byte) (s : State) : exec (.timeOnAir .lora n) s = .next (timeOnAirLora n s) := rfl

theorem eight_le_loraPayloadSymbols (sf cr l : Nat) (crc fixed ldro : Bool) :
    8 ≤ loraPayloadSymbols sf cr l crc fixed ldro :=
  Int.le_add_of_nonneg_right (le_max_right _ _)

/-- From a spreading factor of 64 on no airtime fits 32 bits: the guard of `timeOnAirLora` refuses nothing else. -/
theorem loraTimeOnAir_large {bw sf ms : Nat} (hbw : bw ≤ 500000) (hsf : 64 ≤ sf) {cr p l : Nat} {crc fixed ldro : Bool}
    (h : loraTimeOnAir bw sf cr p l crc fixed ldro = some ms) : 2 ^ 32 ≤ ms := by
  by_cases hnone : (sf : Int) ≤ 2 * bit ldro ∨ bw = 0
  · exact nomatch (loraTimeOnAir_eq_none hnone cr p l crc fixed).symm.trans h
  · rw [loraTimeOnAir_eq_some hnone, Option.some.injEq] at h
    have hsym := eight_le_loraPayloadSymbols sf cr l crc fixed ldro
    have hpow : (2 : Int) ^ 64 ≤ 2 ^ sf := pow_le_pow_right₀ (by norm_num) hsf
    have hnum : 2 ^ 32 * (bw : Int) ≤
        (4 * (p : Int) + 17 + 4 * loraPayloadSymbols sf cr l crc fixed ldro) * 2 ^ sf * 250 := by
      nlinarith
    have hceil := le_ceilDiv (by omega) hnum
    omega

/-- The answer of `TIME_ON_AIR` for LoRa is that of the formula, its two early refusals included (R222). -/
theorem timeOnAirLora_eq (n : Byte) (s : State) :
    timeOnAirLora n s = respondMs ((loraBwHz s.lora.bandwidth.toNat).bind fun bw =>
      loraTimeOnAir bw s.lora.datarate.toNat s.lora.coderate.toNat s.lora.preambleLen.toNat n.toNat s.lora.crcOn
        s.lora.fixLen s.lora.lowDatarateOptimize) s := by
  rw [timeOnAirLora]
  cases hbw : loraBwHz s.lora.bandwidth.toNat with
  | none => rfl
  | some bw =>
    obtain ⟨-, hle⟩ := loraBwHz_bounds hbw
    dsimp only [Option.bind_some]
    split
    case isFalse => rfl
    case isTrue hguard =>
      refine (respondMs_of_not_word ?_ s).symm
      rintro ⟨ms, hms⟩
      obtain hsmall | hlarge := hguard
      · exact nomatch (loraTimeOnAir_eq_none (.inl hsmall) ..).symm.trans hms
      · exact absurd ms.isLt (loraTimeOnAir_large hle hlarge hms).not_gt

end Sys2Proof.Machine

section

open Sys2Proof Sys2Proof.Machine

/-- Settles O40: over an ascending table at most one pair brackets the request, and none does outside the table. -/
theorem bandwidthLookup : Obligations.BandwidthLookup := by
  intro s bw hwf
  have hasc := pairwise_fskBwTable hwf
  refine ⟨fun i hi hlo hhi => ?bracketed, fun hout => ?outside, _, rfl⟩
  case bracketed =>
    rw [exec_fskBandwidthCode, bandwidthCode_of_bracket hasc hi hlo hhi, Option.elim_some]
  case outside =>
    have hnone : bandwidthCode s.cfg.fskBwTable bw.toNat = none := by
      refine bandwidthCode_eq_none fun a ha b hb hin => ?_
      obtain ⟨hlo, hhi⟩ := hin
      obtain hbelow | habove := hout
      · exact (lt_bw_of_lt_first hasc hbelow a ha).not_ge hlo
      · exact (bw_le_of_last_le hasc habove b hb).not_gt hhi
    rw [exec_fskBandwidthCode, hnone, Option.elim_none]

/-- Settles O41: the encoder's three ranges, and the register bytes of `SET_RF_TX_POWER` through its result. -/
theorem txPower : Obligations.TxPower := by
  intro s power path
  refine ⟨_, _, _, exec_txPowerEncode power path s, txPowerEncode_boost_iff _ _, ?rfo, ?plain, ?boosted, ?registers⟩
  case rfo =>
    rintro rfl
    exact txPowerEncode_rfo _
  case plain =>
    rintro rfl h
    exact txPowerEncode_paBoost_of_le h
  case boosted =>
    rintro rfl h
    exact txPowerEncode_paBoost_of_gt h
  case registers =>
    rintro rfl
    rw [exec_setRfTxPower, powerEvents, paConfigValue_eq, paDacValue_eq]

/-- Settles O42: the integer divisions of the two formulas are the rounding and the ceiling of the exact rationals. -/
theorem airtimeExact : Obligations.AirtimeExact := by
  refine ⟨fun s p y a l c r => ⟨?fskNone, fun hr => ?fsk⟩, ?lora⟩
  case fskNone =>
    rintro rfl
    rw [exec_fskTimeOnAir, fskTimeOnAir_zero, msReturned]
  case fsk => rw [exec_fskTimeOnAir, fskTimeOnAir_eq_round p y a l c hr, msReturned]
  case lora =>
    intro s bw sf cr p l crc fixed ldro
    dsimp only
    rw [← two_mul_bit]
    refine ⟨fun h => ?none, fun hsf hbw => ?some⟩
    case none => rw [exec_loraTimeOnAir, loraTimeOnAir_eq_none h, msReturned]
    case some => rw [exec_loraTimeOnAir, loraTimeOnAir_eq_ceil hsf hbw, loraPayloadSymbols_cast hsf, msReturned]

/-- Settles O43: each modem's answer is `respondMs` of its formula, which refuses exactly what no word holds. -/
theorem timeOnAir : Obligations.TimeOnAir := by
  refine ⟨loraBwHz_eq_some_iff, fun s n => ⟨fun h => ?fskZero, fun h => ?fsk, ?lora, fun h => ?loraRefused⟩⟩
  case fskZero => rw [exec_timeOnAir_fsk, timeOnAirFsk_zero h]
  case fsk =>
    have hrate : 0 < s.fsk.datarate.toNat := Nat.pos_of_ne_zero fun h0 => h (BitVec.eq_of_toNat_eq h0)
    have hsum : 16000 * (s.fsk.preambleLen.toNat + syncWordLen s.cfg.regmap (answer s 0)
        + addrFilterByte s.cfg.regmap (answer s 1) + n.toNat + (if s.fsk.crcOn then 2 else 0)) < 2 ^ 32 := by
      have haddr := addrFilterByte_le_one s.cfg.regmap (answer s 1)
      have hcrc : (if s.fsk.crcOn then 2 else 0) ≤ 2 := by split <;> omega
      rw [syncWordLen]
      omega
    obtain ⟨ms, hms⟩ := fskTimeOnAir_fits hrate hsum
    refine ⟨ms, ?_, ?_⟩
    · rw [← addrFilterByte_eq]
      exact hms
    · rw [exec_timeOnAir_fsk, timeOnAirFsk_eq h, hms, respondMs_word, after_after]
      rfl
  case lora =>
    rintro ms ⟨bw, hbw, hms⟩
    rw [exec_timeOnAir_lora, timeOnAirLora_eq, hbw, Option.bind_some, hms, respondMs_word]
  case loraRefused =>
    rw [exec_timeOnAir_lora, timeOnAirLora_eq, respondMs_of_not_word]
    rintro ⟨ms, hms⟩
    obtain ⟨bw, hbw, hms⟩ := Option.bind_eq_some_iff.1 hms
    exact h ⟨ms, bw, hbw, hms⟩

end

/-! The mode controller (R140 to R150, R211): each instruction is its operation, whose closed form
Laws/Ops and Laws/Units give. -/

namespace Sys2Proof.Machine

/-- `SET_MODEM` against a chip and a cache that both hold the modem is one read (R146, R147). -/
theorem withModem_of_agrees {s : State} {kind : ModemKind} (hcache : s.modem = kind)
    (hchip : modemOfOpmode s.cfg.regmap (answer s 0) = kind) :
    s.withModem kind = s.after 1 [readOf s.cfg.regmap.opmode (answer s 0)] := by
  subst hcache
  rw [withModem_eq]
  simp only [modemReads, modemEvents, if_pos hchip]
  rfl

end Sys2Proof.Machine

section

open Sys2Proof Sys2Proof.Machine

/-- Settles O30: `SLEEP` and `STANDBY` are `GoIdle` and a mode write, then the response. -/
theorem sleepAndStandby : Obligations.SleepAndStandby := by
  intro s
  have hsleep : exec .sleep s = .next (respond [] (sleepOp s)) := rfl
  have hstandby : exec .standby s = .next (respond [] (standbyOp s)) := rfl
  constructor
  · rw [hsleep, sleepOp_eq, respond_eq, put_after, after_after]
    rfl
  · rw [hstandby, standbyOp_eq, respond_eq, put_after, after_after]
    rfl

/-- Settles O32: the frame of `LOAD_DEFAULT_REGISTERS` is that of mode control. -/
theorem resetPulseAndDefaults : Obligations.ResetPulseAndDefaults := fun s =>
  ⟨congrArg Host.Outcome.next (radioReset_eq s), congrArg Host.Outcome.next (loadDefaultRegisters_eq s),
    (ControlOf.withDefaults s).eq⟩

/-- Settles O33: the closed forms of the mode write, the low-power posture and the antenna switch. -/
theorem modeAndPins : Obligations.ModeAndPins := fun s mode =>
  ⟨congrArg Host.Outcome.next (setOperationMode_eq mode s), congrArg Host.Outcome.next (antennaLowPower_eq s),
    fun _ => congrArg Host.Outcome.next (setAntennaSwitch_eq mode s)⟩

/-- Settles O35: where the chip answers the modem the cache already holds, `SET_MODEM` is its one read. -/
theorem modemSelection : Obligations.ModemSelection := by
  intro s kind
  have hexec (u : State) : exec (.setModem kind) u = .next (u.withModem kind) :=
    congrArg Host.Outcome.next (setModem_eq kind u)
  refine ⟨hexec s, withModem_modem s kind, fun h => ?_⟩
  rw [hexec, withModem_of_agrees (withModem_modem s kind) (by rw [withModem_cfg]; exact h), withModem_cfg]

end

namespace Sys2Proof.Machine

/-- `TIME_ON_AIR` answers once, whatever the airtime (R222). -/
theorem respondMs_eq_after (ms : Option Nat) (s : State) :
    ∃ message, respondMs ms s = s.after 0 [.response message] := by
  by_cases h : ∃ w : Word, ms = some w.toNat
  · obtain ⟨w, rfl⟩ := h
    exact ⟨_, respondMs_word w s⟩
  · exact ⟨_, respondMs_of_not_word h s⟩

/-! ### What leaves `S.state` and the timer as they are (R152, R168, R260) -/

/-- `t` has the operating state and the timer of `s`. -/
def SameTiming (s t : State) : Prop := t.state = s.state ∧ t.timer = s.timer

section SameTiming

variable (s : State)

theorem after_sameTiming (n : Nat) (ev : List Event) : SameTiming s (s.after n ev) := ⟨rfl, rfl⟩

theorem regWriteBurst_sameTiming (a : Addr) (l : List Byte) : SameTiming s (regWriteBurst a l s) := by
  rw [regWriteBurst_eq]
  exact after_sameTiming ..

theorem regReadBurst_sameTiming (a : Addr) (n : Nat) : SameTiming s (regReadBurst a n s).2 := by
  rw [regReadBurst_eq]
  exact after_sameTiming ..

theorem respondMs_sameTiming (ms : Option Nat) : SameTiming s (respondMs ms s) := by
  obtain ⟨message, h⟩ := respondMs_eq_after ms s
  rw [h]
  exact after_sameTiming ..

theorem setOperationMode_sameTiming (mode : OpMode) : SameTiming s (setOperationMode mode s) := by
  rw [setOperationMode_eq]
  exact ⟨rfl, rfl⟩

theorem setAntennaSwitch_sameTiming (mode : OpMode) : SameTiming s (setAntennaSwitch mode s) := by
  rw [setAntennaSwitch_eq]
  exact ⟨rfl, rfl⟩

theorem antennaLowPower_sameTiming : SameTiming s (antennaLowPower s) := by
  rw [antennaLowPower_eq]
  exact ⟨rfl, rfl⟩

theorem setRfTxPower_sameTiming (p : Byte) : SameTiming s (setRfTxPower p s) := by
  rw [setRfTxPower_eq]
  exact after_sameTiming ..

theorem setChannelOp_sameTiming (f : Word) : SameTiming s (setChannelOp f s) := by
  rw [setChannelOp_eq]
  exact ⟨rfl, rfl⟩

theorem timeOnAirFsk_sameTiming (len : Byte) : SameTiming s (timeOnAirFsk len s) := by
  by_cases h : s.fsk.datarate = 0
  · rw [timeOnAirFsk_zero h]
    exact after_sameTiming ..
  · rw [timeOnAirFsk_eq h]
    exact respondMs_sameTiming (s.after _ _) _

theorem timeOnAirLora_sameTiming (len : Byte) : SameTiming s (timeOnAirLora len s) := by
  rw [timeOnAirLora_eq]
  exact respondMs_sameTiming ..

/-- The bus primitives touch the chip, the history and the returned value (R110 to R116). -/
theorem exec_bus_sameTiming {i : Instr} (hi : i.format = .bus) : OnNext (SameTiming s) (exec i s) := by
  cases i with
  | writeRegister a v => exact ⟨rfl, rfl⟩
  | writeRegisters a l => exact regWriteBurst_sameTiming s a l
  | readRegister a => exact ⟨rfl, rfl⟩
  | readRegisters a n => exact regReadBurst_sameTiming s a n
  | writeFifo l => exact regWriteBurst_sameTiming s regFifo l
  | readFifo n => exact regReadBurst_sameTiming s regFifo n
  | _ => exact nomatch hi

theorem exec_timeOnAir_sameTiming (m : ModemKind) (len : Byte) : OnNext (SameTiming s) (exec (.timeOnAir m len) s) := by
  cases m with
  | fsk => exact timeOnAirFsk_sameTiming s len
  | lora => exact timeOnAirLora_sameTiming s len

theorem exec_lock_sameTiming : OnNext (SameTiming s) (exec .lock s) := by
  change OnNext _ (execLock s)
  rw [execLock]
  split <;> exact ⟨rfl, rfl⟩

theorem exec_unlock_sameTiming : OnNext (SameTiming s) (exec .unlock s) := by
  change OnNext _ (execUnlock s)
  rw [execUnlock]
  split <;> exact ⟨rfl, rfl⟩

theorem exec_dio4Irq_sameTiming : OnNext (SameTiming s) (exec .dio4Irq s) := by
  change OnNext _ (execDio4Irq s)
  rw [execDio4Irq]
  cases s.modem <;> exact ⟨rfl, rfl⟩

end SameTiming

/-- `START_CAD` under FSK is a bare response (R168). -/
theorem exec_startCad_fsk {s : State} (h : s.modem = .fsk) : exec .startCad s = .next (respond [] s) := by
  change execStartCad s = _
  rw [execStartCad, h]

end Sys2Proof.Machine

section

open Sys2Proof Sys2Proof.Machine

/-- Settles O24: no operation these instructions are made of writes `S.state` or the timer. An instruction closed by
`⟨rfl, rfl⟩` is a response, a reset pulse, a returned value or nothing at all. -/
theorem stateWriters : Obligations.StateWriters := by
  intro i s t h hi
  suffices hkeeps : OnNext (SameTiming s) (exec i s) from hkeeps.next h
  obtain hbus | ⟨f, rfl⟩ | rfl | ⟨rfl, hfsk⟩ | ⟨m, n, rfl⟩ | ⟨f, rfl⟩ | rfl | rfl | rfl | rfl | ⟨m, rfl⟩ | rfl |
    ⟨m, rfl⟩ | rfl | ⟨p, rfl⟩ | ⟨b, rfl⟩ | ⟨p, q, rfl⟩ | ⟨a, b, c, d, e, r, rfl⟩ | ⟨a, b, c, d, e, x, y, z, rfl⟩ := hi
  · exact exec_bus_sameTiming s hbus
  · exact setChannelOp_sameTiming s f
  · exact ⟨rfl, rfl⟩
  · rw [exec_startCad_fsk hfsk]
    exact ⟨rfl, rfl⟩
  · exact exec_timeOnAir_sameTiming s m n
  · exact ⟨rfl, rfl⟩
  · exact exec_lock_sameTiming s
  · exact exec_unlock_sameTiming s
  · exact exec_dio4Irq_sameTiming s
  · exact ⟨rfl, rfl⟩
  · exact setOperationMode_sameTiming s m
  · exact ⟨rfl, rfl⟩
  · exact setAntennaSwitch_sameTiming s m
  · exact antennaLowPower_sameTiming s
  · exact setRfTxPower_sameTiming s p
  · exact ⟨rfl, rfl⟩
  · exact ⟨rfl, rfl⟩
  · exact ⟨rfl, rfl⟩
  · exact ⟨rfl, rfl⟩

end

namespace Sys2Proof.Machine

/-! ### What every instruction shows (R34, R145, R153) -/

/-- An event R145 allows: no pin action but one at a `SafeLevel`. -/
def Event.Allowed : Event → Prop
  | .gpioSet p level => SafeLevel (p, level)
  | .busRead _ _ | .busWrite _ _ | .rstLow | .rstRelease | .timerStart _ | .timerCancel | .wait _ | .callback _
  | .response _ => True

/-- The history grows by allowed events, and `Idle` is entered with a cancel among them. -/
def Shows (s t : State) : Prop :=
  ∃ ev, t.hist = s.hist ++ ev ∧ (∀ e ∈ ev, e.Allowed) ∧ (t.state = .idle → s.state = .idle ∨ .timerCancel ∈ ev)

/-- The history grows by allowed events with a cancel among them, whatever the operating state. -/
def ShowsCancel (s t : State) : Prop := ∃ ev, t.hist = s.hist ++ ev ∧ (∀ e ∈ ev, e.Allowed) ∧ .timerCancel ∈ ev

section Shows

variable {s t u : State}

/-- An update that shows nothing and does not enter `Idle`. -/
theorem Shows.silent (hh : t.hist = s.hist) (hi : t.state = .idle → s.state = .idle) : Shows s t :=
  ⟨[], by rw [hh, List.append_nil], nofun, .inl ∘ hi⟩

theorem Shows.refl (s : State) : Shows s s := .silent rfl id

theorem Shows.trans (h : Shows s t) (h' : Shows t u) : Shows s u := by
  obtain ⟨ev, hh, ha, hi⟩ := h
  obtain ⟨ev', hh', ha', hi'⟩ := h'
  refine ⟨ev ++ ev', by rw [hh', hh, List.append_assoc], fun e he => (List.mem_append.1 he).elim (ha e) (ha' e), ?_⟩
  intro hu
  obtain ht | hc := hi' hu
  · exact (hi ht).imp_right (List.mem_append_left ev')
  · exact .inr (List.mem_append_right ev hc)

theorem ShowsCancel.trans (h : ShowsCancel s t) (h' : Shows t u) : ShowsCancel s u := by
  obtain ⟨ev, hh, ha, hc⟩ := h
  obtain ⟨ev', hh', ha', -⟩ := h'
  exact ⟨ev ++ ev', by rw [hh', hh, List.append_assoc], fun e he => (List.mem_append.1 he).elim (ha e) (ha' e),
    List.mem_append_left ev' hc⟩

/-- After a cancel `Idle` may be entered at any later point of the rule (R153, R192, R199). -/
theorem ShowsCancel.enter (h : ShowsCancel s t) : Shows s { t with state := .idle } := by
  obtain ⟨ev, hev, ha, hc⟩ := h
  exact ⟨ev, hev, ha, fun _ => .inr hc⟩

end Shows

/-! ### The shared operations -/

section Operations

variable (s : State)

theorem record_shows {e : Event} (h : e.Allowed) : Shows s (record e s) :=
  ⟨[e], rfl, fun _ hx => List.mem_singleton.1 hx ▸ h, .inl⟩

theorem timerCancel_showsCancel : ShowsCancel s (timerCancel s) :=
  ⟨[.timerCancel], rfl, fun _ hx => List.mem_singleton.1 hx ▸ trivial, List.mem_cons_self⟩

theorem goIdle_shows : Shows s (goIdle s) := (timerCancel_showsCancel s).enter

theorem timerStart_shows (ms : Word) : Shows s (timerStart ms s) :=
  (record_shows s (e := .timerStart ms) trivial).trans (.silent rfl id)

theorem wait_shows (n : Nat) : Shows s (wait n s) := record_shows s (e := .wait n) trivial

theorem respond_shows (l : List Byte) : Shows s (respond l s) := record_shows s (e := .response _) trivial

theorem raiseError_shows (e : Status) : Shows s (raiseError e s) := record_shows s (e := .response _) trivial

theorem respondMs_shows (ms : Option Nat) : Shows s (respondMs ms s) := by
  obtain ⟨message, h⟩ := respondMs_eq_after ms s
  rw [h]
  exact record_shows s (e := .response message) trivial

theorem emit_shows (c : Callback) : Shows s (emit c s) := by
  rw [emit]
  split
  · exact record_shows s trivial
  · exact .refl s

theorem busWrite_shows (a : Addr) (l : List Byte) : Shows s (busWrite a l s) := record_shows s trivial

theorem busRead_shows (a : Addr) (n : Nat) : Shows s (busRead a n s).2 :=
  (record_shows s (e := .busRead a (answered s n)) trivial).trans (.silent rfl id)

theorem regWrite_shows (a : Addr) (v : Byte) : Shows s (regWrite a v s) := busWrite_shows s a [v]

theorem regRead_shows (a : Addr) : Shows s (regRead a s).2 := busRead_shows s a 1

theorem regSet_shows (a : Addr) (m o : Byte) : Shows s (regSet a m o s) :=
  (regRead_shows s a).trans (regWrite_shows _ _ _)

theorem regWriteBurst_shows (a : Addr) (l : List Byte) : Shows s (regWriteBurst a l s) := by
  rw [regWriteBurst]
  split
  · exact .refl s
  · exact busWrite_shows s a l

theorem regReadBurst_shows (a : Addr) (n : Nat) : Shows s (regReadBurst a n s).2 := by
  rw [regReadBurst]
  split
  · exact .refl s
  · exact busRead_shows s a n

theorem fifoWrite_shows (l : List Byte) : Shows s (fifoWrite l s) := regWriteBurst_shows s regFifo l

theorem fifoRead_shows (n : Nat) : Shows s (fifoRead n s).2 := regReadBurst_shows s regFifo n

theorem applyStep_shows (x : SeqStep) : Shows s (applyStep s x) := by
  cases x with
  | w a v => exact regWrite_shows s a v
  | m a x y => exact regSet_shows s a x y

/-- Operations folded over a list. -/
theorem foldl_shows {α : Type} {f : State → α → State} (l : List α) (h : ∀ u, ∀ x ∈ l, Shows u (f u x)) :
    Shows s (l.foldl f s) := by
  induction l generalizing s with
  | nil => exact .refl s
  | cons x l ih => exact (h s x List.mem_cons_self).trans (ih _ fun u y hy => h u y (List.mem_cons_of_mem x hy))

theorem applySeq_shows (seq : List SeqStep) : Shows s (applySeq seq s) :=
  foldl_shows s seq fun u x _ => applyStep_shows u x

theorem gpioSet_shows {p : Pin} {level : Bool} (h : SafeLevel (p, level)) : Shows s (gpioSet p level s) := by
  rw [gpioSet]
  split
  · exact (record_shows s (e := .gpioSet p level) h).trans (.silent rfl id)
  · exact .refl s

theorem gpioSetAll_shows {l : List (Pin × Bool)} (h : ∀ x ∈ l, SafeLevel x) : Shows s (gpioSetAll l s) :=
  foldl_shows s l fun u x hx => gpioSet_shows u (h x hx)

/-! ### Mode control (R140 to R150, R162, R211) -/

theorem antennaLowPower_shows : Shows s (antennaLowPower s) := gpioSetAll_shows s (lowPowerPins_safe _)

theorem setAntennaSwitch_shows (mode : OpMode) : Shows s (setAntennaSwitch mode s) := by
  rw [setAntennaSwitch]
  dsimp only
  split
  · exact (regRead_shows s _).trans (gpioSetAll_shows _ (switchPins_safe _ _ _ _))
  · exact gpioSetAll_shows s (switchPins_safe _ _ _ _)

theorem drivePins_shows (mode : OpMode) : Shows s (drivePins mode s) := by
  cases mode with
  | sleep => exact antennaLowPower_shows s
  | standby | transmitter | receiver | receiverSingle | cad => exact setAntennaSwitch_shows s _

theorem setOperationMode_shows (mode : OpMode) : Shows s (setOperationMode mode s) :=
  (drivePins_shows s mode).trans (regSet_shows _ _ _ _)

theorem sleepOp_shows : Shows s (sleepOp s) := (goIdle_shows s).trans (setOperationMode_shows _ _)

theorem standbyOp_shows : Shows s (standbyOp s) := (goIdle_shows s).trans (setOperationMode_shows _ _)

theorem switchModem_shows (k : ModemKind) : Shows s (switchModem k s) := by
  have hcache : Shows s { s with modem := k } := .silent rfl id
  exact ((hcache.trans (sleepOp_shows _)).trans (regSet_shows _ _ _ _)).trans (applySeq_shows _ _)

theorem setModem_shows (k : ModemKind) : Shows s (setModem k s) := by
  have hread := regRead_shows s s.cfg.regmap.opmode
  rw [setModem]
  dsimp only
  split
  · exact hread.trans (.silent rfl id)
  · exact hread.trans (switchModem_shows _ k)

theorem loadDefaultRegisters_shows : Shows s (loadDefaultRegisters s) :=
  foldl_shows s s.cfg.chipSeq.initRegs fun u e _ => (setModem_shows u e.kind).trans (regWrite_shows _ _ _)

/-- The four events of the pulse, with the pin's level beside them (R148). -/
theorem radioReset_shows : Shows s (radioReset s) :=
  have drive (u : State) (r : ResetPin) : Shows u { u with rst := r } := .silent rfl id
  (((((record_shows s (e := .rstLow) trivial).trans (drive _ .drivenLow)).trans (wait_shows _ s.cfg.resetLowMs)).trans
    (record_shows _ (e := .rstRelease) trivial)).trans (drive _ .released)).trans (wait_shows _ s.cfg.resetWaitMs)

theorem setRfTxPower_shows (p : Byte) : Shows s (setRfTxPower p s) := by
  rw [setRfTxPower]
  exact (((regRead_shows s _).trans (regRead_shows _ _)).trans (regWrite_shows _ _ _)).trans (regWrite_shows _ _ _)

theorem wakeIfSleep_shows : Shows s (wakeIfSleep s) := by
  have hread := regRead_shows s s.cfg.regmap.opmode
  rw [wakeIfSleep]
  split
  · exact (hread.trans (standbyOp_shows _)).trans (wait_shows _ _)
  · exact hread

/-! ### Configuration (R212 to R221) -/

theorem setChannelOp_shows (f : Word) : Shows s (setChannelOp f s) :=
  have store : Shows s { s with channel := f } := .silent rfl id
  store.trans (applySeq_shows _ _)

theorem storeRxConfig_shows (a : RxConfigArgs) : Shows s (storeRxConfig a s) := by
  rw [storeRxConfig]
  cases a.modem <;> exact .silent rfl id

theorem storeTxConfig_shows (a : TxConfigArgs) : Shows s (storeTxConfig a s) := by
  rw [storeTxConfig]
  cases a.modem <;> exact .silent rfl id

theorem setTxConfigOp_shows (a : TxConfigArgs) : Shows s (setTxConfigOp a s) :=
  (((setModem_shows s a.modem).trans (setRfTxPower_shows _ _)).trans (storeTxConfig_shows _ a)).trans
    (applySeq_shows _ _)

theorem setPublicNetworkOp_shows (e : Bool) : Shows s (setPublicNetworkOp e s) :=
  have store (u : State) (l : LoraConfig) : Shows u { u with lora := l } := .silent rfl id
  ((setModem_shows s .lora).trans (store _ _)).trans (regWrite_shows _ _ _)

/-! ### Transmission and reception (R161 to R166, R181 to R190) -/

theorem withFskPh_shows (p : FskPacket) : Shows s { s with fskPh := p } := .silent rfl id

theorem withLoraPh_shows (q : LoraPacket) : Shows s { s with loraPh := q } := .silent rfl id

theorem memWrite_shows (i : Nat) (l : List Byte) : Shows s (memWrite i l s) := .silent rfl id

theorem clearFskPacketState_shows : Shows s (clearFskPacketState s) := withFskPh_shows s _

theorem captureFifoThresh_shows : Shows s (captureFifoThresh s) := (regRead_shows s _).trans (withFskPh_shows _ _)

/-- Entering a busy state shows nothing. -/
theorem enter_shows (st : RadioState) (h : st ≠ .idle) : Shows s { s with state := st } :=
  .silent rfl fun hi => absurd hi h

/-- The end of a transmission's start: the state, the timer, the mode (R164, R228). -/
theorem startTx_shows (ms : Word) :
    Shows s (setOperationMode .transmitter (timerStart ms { s with state := .txRunning })) :=
  ((enter_shows s .txRunning nofun).trans (timerStart_shows _ ms)).trans (setOperationMode_shows _ _)

theorem transmit_shows (ms : Word) : Shows s (transmit ms s) := by
  have hmap (m : ModemKind) := applySeq_shows s (txMap s.cfg.chipSeq m s.lora.freqHopOn)
  rw [transmit]
  cases s.modem with
  | fsk => exact ((hmap .fsk).trans (captureFifoThresh_shows _)).trans (startTx_shows _ ms)
  | lora => exact (hmap .lora).trans (startTx_shows _ ms)

theorem sendFskLength_shows (size : Byte) : Shows s (sendFskLength size s) := by
  rw [sendFskLength]
  split
  · exact regWrite_shows s _ size
  · exact fifoWrite_shows s [size]

theorem sendFsk_shows (size : Byte) : OnNext (Shows s) (sendFsk size s) := by
  simp only [sendFsk]
  split
  · exact ((((((withFskPh_shows s _).trans (wakeIfSleep_shows _)).trans (sendFskLength_shows _ size)).trans
      (withFskPh_shows _ _)).trans (fifoWrite_shows _ _)).trans (withFskPh_shows _ _)).trans (transmit_shows _ _)
  · trivial

theorem sendLora_shows (size : Byte) : Shows s (sendLora size s) :=
  ((((((withLoraPh_shows s _).trans (regWrite_shows _ _ _)).trans (regWrite_shows _ _ _)).trans
    (regWrite_shows _ _ _)).trans (wakeIfSleep_shows _)).trans (fifoWrite_shows _ _)).trans (transmit_shows _ _)

theorem receivePrepare_shows : Shows s (receivePrepare s) := by
  rw [receivePrepare]
  cases s.modem with
  | fsk => exact ((applySeq_shows s _).trans (captureFifoThresh_shows _)).trans (clearFskPacketState_shows _)
  | lora => exact applySeq_shows s _

theorem fskRxEnd_shows : Shows s (fskRxEnd s) := by
  rw [fskRxEnd]
  split
  · exact regSet_shows s _ _ _
  · exact goIdle_shows s

theorem fskRxAbort_shows : Shows s (fskRxAbort s) :=
  (((applySeq_shows s _).trans (fskRxEnd_shows _)).trans (emit_shows _ _)).trans (clearFskPacketState_shows _)

theorem readLength_shows : Shows s (readLength s).2 := by
  rw [readLength]
  split
  · exact regRead_shows s _
  · exact fifoRead_shows s 1

theorem fskExtractLength_shows : Shows s (fskExtractLength s).2 := by
  have hread := readLength_shows s
  simp only [fskExtractLength]
  split
  · split
    · exact hread.trans (fskRxAbort_shows _)
    · exact hread.trans (withFskPh_shows _ _)
  · exact .refl s

theorem drainFsk_shows (n : Nat) : Shows s (drainFsk n s) :=
  ((fifoRead_shows s n).trans (memWrite_shows _ _ _)).trans (withFskPh_shows _ _)

theorem refillFsk_shows (n : Nat) : Shows s (refillFsk n s) := (fifoWrite_shows s _).trans (withFskPh_shows _ _)

theorem captureFskReadings_shows : Shows s (captureFskReadings s) :=
  ((((regRead_shows s _).trans (regRead_shows _ _)).trans (regRead_shows _ _)).trans (regRead_shows _ _)).trans
    (withFskPh_shows _ _)

theorem fskDeliver_shows : Shows s (fskDeliver s) :=
  (((captureFskReadings_shows s).trans (fskRxEnd_shows _)).trans (emit_shows _ _)).trans (clearFskPacketState_shows _)

theorem loraRxEnd_shows : Shows s (loraRxEnd s) := by
  rw [loraRxEnd]
  split
  · exact .refl s
  · exact goIdle_shows s

theorem loraDrain_shows (len : Byte) : Shows s (loraDrain len s) :=
  (((regRead_shows s _).trans (regWrite_shows _ _ _)).trans (fifoRead_shows _ _)).trans (memWrite_shows _ _ _)

theorem captureLoraReadings_shows : Shows s (captureLoraReadings s) :=
  ((regRead_shows s _).trans (regRead_shows _ _)).trans (withLoraPh_shows _ _)

theorem loraDeliver_shows (len : Byte) : Shows s (loraDeliver len s) :=
  (((withLoraPh_shows s _).trans (loraDrain_shows _ len)).trans (loraRxEnd_shows _)).trans (emit_shows _ _)

/-! ### Polls and airtime (R222, R226, R227) -/

theorem randomLoop_shows (n : Nat) (v : Word) : Shows s (randomLoop n v s).2 := by
  induction n generalizing v s with
  | zero => exact .refl s
  | succ n ih => exact ((wait_shows s _).trans (regRead_shows _ _)).trans (ih _ _)

theorem currentRssi_shows (m : ModemKind) : Shows s (currentRssi m s).2 := by
  cases m <;> exact regRead_shows s _

theorem senseLoop_shows (m : ModemKind) (th : Int) (n : Nat) : Shows s (senseLoop m th n s).2 := by
  induction n generalizing s with
  | zero => exact .refl s
  | succ n ih =>
    have hread := currentRssi_shows s m
    rw [senseLoop]
    split
    · exact hread
    · exact (hread.trans (wait_shows _ _)).trans (ih _)

theorem timeOnAirFsk_shows (len : Byte) : Shows s (timeOnAirFsk len s) := by
  rw [timeOnAirFsk]
  split
  · exact raiseError_shows s _
  · exact ((regRead_shows s _).trans (regRead_shows _ _)).trans (respondMs_shows _ _)

theorem timeOnAirLora_shows (len : Byte) : Shows s (timeOnAirLora len s) := by
  rw [timeOnAirLora_eq]
  exact respondMs_shows s _

/-! ### The commands -/

theorem execInitRadio_shows (c : Byte) : OnNext (Shows s) (execInitRadio c s) :=
  have hcb : Shows s { s with cbSet := c.setWidth 7 } := .silent rfl id
  have harm (u : State) : Shows u { u with irqArmed := true } := .silent rfl id
  ((((((hcb.trans (radioReset_shows _)).trans (setOperationMode_shows _ _)).trans (loadDefaultRegisters_shows _)).trans
    (setModem_shows _ _)).trans (goIdle_shows _)).trans (harm _)).trans (respond_shows _ _)

theorem execSetRxConfig_shows (a : RxConfigArgs) : OnNext (Shows s) (execSetRxConfig a s) := by
  rw [execSetRxConfig]
  split
  · exact (((setModem_shows s _).trans (storeRxConfig_shows _ a)).trans (applySeq_shows _ _)).trans (respond_shows _ _)
  · exact raiseError_shows s _

theorem execSend_shows (size : Byte) (l : List Byte) : OnNext (Shows s) (execSend size l s) := by
  have hmem := memWrite_shows s 0 l
  rw [execSend]
  split
  · cases s.modem with
    | fsk =>
      refine onNext_of fun t ht => ?_
      obtain ⟨u, hu, ht⟩ := andThen_next ht
      obtain rfl := Host.Outcome.next.inj ht
      exact (hmem.trans ((sendFsk_shows _ size).next hu)).trans (respond_shows u [])
    | lora => exact (hmem.trans (sendLora_shows _ size)).trans (respond_shows _ [])
  · exact raiseError_shows s _

theorem execReceive_shows : OnNext (Shows s) (execReceive s) :=
  have hzero (u : State) : Shows u (zeroBuffer u) := .silent rfl id
  ((((receivePrepare_shows s).trans (hzero _)).trans (enter_shows _ .rxRunning nofun)).trans
    (setOperationMode_shows _ _)).trans (respond_shows _ [])

theorem execStartCad_shows : OnNext (Shows s) (execStartCad s) := by
  rw [execStartCad]
  cases s.modem with
  | fsk => exact respond_shows s []
  | lora =>
    exact (((applySeq_shows s _).trans (setOperationMode_shows _ _)).trans (enter_shows _ .cad nofun)).trans
      (respond_shows _ [])

theorem execSetTxContinuousWave_shows (f : Word) (p : Byte) (d : Half) :
    OnNext (Shows s) (execSetTxContinuousWave f p d s) :=
  ((((setChannelOp_shows s f).trans (setTxConfigOp_shows _ _)).trans (applySeq_shows _ _)).trans
    (startTx_shows _ _)).trans (respond_shows _ [])

theorem execSetMaxPayloadLength_shows (m : ModemKind) (v : Byte) :
    OnNext (Shows s) (execSetMaxPayloadLength m v s) := by
  have hm := setModem_shows s m
  cases m with
  | fsk =>
    simp only [execSetMaxPayloadLength]
    split
    · exact hm.trans (respond_shows _ [])
    · exact (hm.trans (regWrite_shows _ _ _)).trans (respond_shows _ [])
  | lora => exact (hm.trans (regWrite_shows _ _ _)).trans (respond_shows _ [])

theorem execPerformCarrierSense_shows (m : ModemKind) (f : Word) (th : Half) (d : Word) :
    OnNext (Shows s) (execPerformCarrierSense m f th d s) :=
  have hdraw (n : Nat) (u : State) : Shows u (drawPolls n u).2 := .silent rfl id
  (((((((setModem_shows s m).trans (setChannelOp_shows _ f)).trans (setOperationMode_shows _ _)).trans
    (wait_shows _ _)).trans (hdraw _ _)).trans (senseLoop_shows _ _ _ _)).trans (sleepOp_shows _)).trans
    (respond_shows _ _)

theorem execTimeOnAir_shows (m : ModemKind) (len : Byte) : OnNext (Shows s) (execTimeOnAir m len s) := by
  cases m with
  | fsk => exact timeOnAirFsk_shows s len
  | lora => exact timeOnAirLora_shows s len

theorem execRandom_shows : OnNext (Shows s) (execRandom s) :=
  (((((setModem_shows s .lora).trans (regWrite_shows _ _ _)).trans (setOperationMode_shows _ _)).trans
    (randomLoop_shows _ _ _)).trans (sleepOp_shows _)).trans (respond_shows _ _)

theorem withLock_shows (n : Byte) : Shows s { s with lock := n } := .silent rfl id

theorem execLock_shows : OnNext (Shows s) (execLock s) := by
  rw [execLock]
  split
  · exact raiseError_shows s _
  · exact (withLock_shows s _).trans (respond_shows _ [])

theorem execUnlock_shows : OnNext (Shows s) (execUnlock s) := by
  rw [execUnlock]
  split
  · exact raiseError_shows s _
  · exact (withLock_shows s _).trans (respond_shows _ [])

/-! ### The handlers -/

theorem fskComplete_shows : OnNext (Shows s) (fskComplete s) := by
  have hlen := fskExtractLength_shows s
  rw [fskComplete]
  split
  · split
    · exact (hlen.trans (drainFsk_shows _ _)).trans (fskDeliver_shows _)
    · trivial
  · exact hlen

theorem dio0RxFsk_shows : OnNext (Shows s) (dio0RxFsk s) := by
  have hread := regRead_shows s s.cfg.regmap.irqFlags2
  rw [dio0RxFsk]
  dsimp only
  split
  · split
    · exact onNext_of fun t ht => hread.trans ((fskComplete_shows _).next ht)
    · exact hread.trans (fskRxAbort_shows _)
  · exact fskComplete_shows s

theorem dio0RxLora_shows : Shows s (dio0RxLora s) := by
  have hflags := (regWrite_shows s s.cfg.regmap.lrIrqFlags s.cfg.regmap.lrRxDone).trans
    (regRead_shows _ s.cfg.regmap.lrIrqFlags)
  rw [dio0RxLora]
  dsimp only
  split
  · exact ((hflags.trans (regWrite_shows _ _ _)).trans (loraRxEnd_shows _)).trans (emit_shows _ _)
  · have hlen := (hflags.trans (captureLoraReadings_shows _)).trans (regRead_shows _ s.cfg.regmap.lrRxNbBytes)
    split
    · exact (hlen.trans (loraRxEnd_shows _)).trans (emit_shows _ _)
    · exact hlen.trans (loraDeliver_shows _ _)

/-- The cancel opens the rule, `Idle` closes it (R192). -/
theorem dio0Tx_shows : Shows s (dio0Tx s) := by
  have hcancel := timerCancel_showsCancel s
  rw [dio0Tx]
  cases s.modem with
  | fsk => exact hcancel.enter.trans (emit_shows _ _)
  | lora => exact (hcancel.trans (regWrite_shows _ _ _)).enter.trans (emit_shows _ _)

theorem execDio0Irq_shows : OnNext (Shows s) (execDio0Irq s) := by
  rw [execDio0Irq]
  split
  · exact dio0RxFsk_shows s
  · exact dio0RxLora_shows s
  · exact dio0Tx_shows s
  · exact .refl s
  · exact .refl s

theorem dio1RxFsk_shows : OnNext (Shows s) (dio1RxFsk s) := by
  have hlen := fskExtractLength_shows s
  rw [dio1RxFsk]
  dsimp only
  split
  · split
    · exact hlen.trans (drainFsk_shows _ _)
    · trivial
  · exact hlen

theorem dio1TxFsk_shows : OnNext (Shows s) (dio1TxFsk s) := by
  rw [dio1TxFsk]
  split
  · exact refillFsk_shows s _
  · trivial

theorem dio1RxLora_shows : Shows s (dio1RxLora s) :=
  ((regWrite_shows s _ _).trans (goIdle_shows _)).trans (emit_shows _ _)

theorem execDio1Irq_shows : OnNext (Shows s) (execDio1Irq s) := by
  rw [execDio1Irq]
  split
  · exact dio1RxFsk_shows s
  · exact dio1TxFsk_shows s
  · exact dio1RxLora_shows s
  · exact .refl s
  · exact .refl s
  · exact .refl s

theorem dio2RxFsk_shows : Shows s (dio2RxFsk s) :=
  (((clearFskPacketState_shows s).trans (applySeq_shows _ _)).trans (fskRxEnd_shows _)).trans (emit_shows _ _)

theorem dio2Lora_shows : Shows s (dio2Lora s) := by
  rw [dio2Lora]
  split
  · exact ((regWrite_shows s _ _).trans (regRead_shows _ _)).trans (emit_shows _ _)
  · exact .refl s

theorem execDio2Irq_shows : OnNext (Shows s) (execDio2Irq s) := by
  rw [execDio2Irq]
  split
  · exact dio2RxFsk_shows s
  · exact dio2Lora_shows s
  · exact dio2Lora_shows s
  · exact .refl s
  · exact .refl s
  · exact .refl s

theorem dio3Lora_shows : Shows s (dio3Lora s) := by
  have hflags (v : Byte) := (regRead_shows s s.cfg.regmap.lrIrqFlags).trans
    (regWrite_shows _ s.cfg.regmap.lrIrqFlags v)
  rw [dio3Lora]
  refine .trans ?_ (emit_shows _ _)
  cases s.state with
  | cad => exact (hflags _).trans (goIdle_shows _)
  | idle | rxRunning | txRunning => exact hflags _

theorem execDio3Irq_shows : OnNext (Shows s) (execDio3Irq s) := by
  rw [execDio3Irq]
  cases s.modem with
  | fsk => exact .refl s
  | lora => exact dio3Lora_shows s

theorem execDio4Irq_shows : OnNext (Shows s) (execDio4Irq s) := by
  rw [execDio4Irq]
  cases s.modem with
  | fsk => exact withFskPh_shows s _
  | lora => exact .refl s

/-- The cancel opens the recovery, `Idle` closes it (R199). -/
theorem timeoutRecovery_shows : Shows s (timeoutRecovery s) :=
  have hcancel := ((((timerCancel_showsCancel s).trans (setOperationMode_shows _ .sleep)).trans
    (loadDefaultRegisters_shows _)).trans (setModem_shows _ .fsk)).trans
    (setPublicNetworkOp_shows _ s.lora.publicNetwork)
  hcancel.enter.trans (emit_shows _ _)

theorem execTimeoutIrq_shows : OnNext (Shows s) (execTimeoutIrq s) := by
  rw [execTimeoutIrq]
  cases s.state with
  | txRunning => exact timeoutRecovery_shows s
  | idle | rxRunning | cad => exact .refl s

end Operations

/-- What every instruction shows. -/
theorem exec_shows (i : Instr) (s : State) : OnNext (Shows s) (exec i s) := by
  have hreturns {u : State} (r : Returned) (h : Shows s u) : Shows s (returns r u) := h.trans (.silent rfl id)
  cases i with
  | initRadio c => exact execInitRadio_shows s c
  | setChannel f => exact (setChannelOp_shows s f).trans (respond_shows _ [])
  | getStatus => exact respond_shows s _
  | sleep => exact (sleepOp_shows s).trans (respond_shows _ [])
  | standby => exact (standbyOp_shows s).trans (respond_shows _ [])
  | setRxConfig a => exact execSetRxConfig_shows s a
  | setTxConfig a => exact (setTxConfigOp_shows s a).trans (respond_shows _ [])
  | send n l => exact execSend_shows s n l
  | receive => exact execReceive_shows s
  | startCad => exact execStartCad_shows s
  | setTxContinuousWave f p d => exact execSetTxContinuousWave_shows s f p d
  | setMaxPayloadLength m v => exact execSetMaxPayloadLength_shows s m v
  | setPublicNetwork e => exact (setPublicNetworkOp_shows s e).trans (respond_shows _ [])
  | performCarrierSense m f th d => exact execPerformCarrierSense_shows s m f th d
  | timeOnAir m len => exact execTimeOnAir_shows s m len
  | random => exact execRandom_shows s
  | checkRfFrequency f => exact respond_shows s _
  | lock => exact execLock_shows s
  | unlock => exact execUnlock_shows s
  | dio0Irq => exact execDio0Irq_shows s
  | dio1Irq => exact execDio1Irq_shows s
  | dio2Irq => exact execDio2Irq_shows s
  | dio3Irq => exact execDio3Irq_shows s
  | dio4Irq => exact execDio4Irq_shows s
  | dio5Irq => exact .refl s
  | timeoutIrq => exact execTimeoutIrq_shows s
  | writeRegister a v => exact regWrite_shows s a v
  | writeRegisters a l => exact regWriteBurst_shows s a l
  | readRegister a => exact hreturns _ (regRead_shows s a)
  | readRegisters a n => exact hreturns _ (regReadBurst_shows s a n)
  | writeFifo l => exact fifoWrite_shows s l
  | readFifo n => exact hreturns _ (fifoRead_shows s n)
  | setOperationMode m => exact setOperationMode_shows s m
  | setModem k => exact setModem_shows s k
  | radioReset => exact radioReset_shows s
  | transmit ms => exact transmit_shows s ms
  | setAntennaSwitch m => exact setAntennaSwitch_shows s m
  | antennaLowPower => exact antennaLowPower_shows s
  | loadDefaultRegisters => exact loadDefaultRegisters_shows s
  | setRfTxPower p => exact setRfTxPower_shows s p
  | fskBandwidthCode bw => exact hreturns _ (.refl s)
  | txPowerEncode p path => exact hreturns _ (.refl s)
  | fskTimeOnAir p y a l c r => exact hreturns _ (.refl s)
  | loraTimeOnAir bw sf cr p l crc fixed ldro => exact hreturns _ (.refl s)
  | fskRxAbort => exact fskRxAbort_shows s

theorem exec_shows_of_next {i : Instr} {s t : State} (h : exec i s = .next t) : Shows s t := (exec_shows i s).next h

/-- An event that R145 forbids is in the history only if it was there before. -/
theorem Shows.mem_hist_of_not_allowed {s t : State} {e : Event} (h : Shows s t) (he : ¬ e.Allowed) (hm : e ∈ t.hist) :
    e ∈ s.hist := by
  obtain ⟨ev, hh, ha, -⟩ := h
  rw [hh] at hm
  exact (List.mem_append.1 hm).resolve_right fun hnew => he (ha e hnew)

end Sys2Proof.Machine

section

open Sys2Proof Sys2Proof.Machine

/-- Settles O23: `exec_evolves` leaves the timer of a changed state as `Timed` says, `exec_shows` shows the cancel. -/
theorem idleCancelsTimer : Obligations.IdleCancelsTimer := by
  intro i s t h hs ht
  constructor
  · obtain ⟨hsame, -⟩ | htimed := (exec_evolves_of_next h).timing
    · exact absurd (hsame.symm.trans ht) hs
    · exact htimed.1 ht
  · obtain ⟨ev, hh, -, hidle⟩ := exec_shows_of_next h
    exact ⟨ev, hh, (hidle ht).resolve_left hs⟩

/-- Settles O25: the levels by `exec_evolves`, the actions by `exec_shows`. -/
theorem optionalLines : Obligations.OptionalLines := by
  intro i s t h
  obtain ⟨htcxo, hpa⟩ := (exec_evolves_of_next h).lines
  have hshows := exec_shows_of_next h
  have htcxoAction (l : Bool) : ¬ (Event.gpioSet .tcxo l).Allowed := fun hl => hl.1 rfl
  have hpaAction : ¬ (Event.gpioSet .pwrAmpCtl true).Allowed := fun hl => nomatch hl.2 rfl
  exact ⟨htcxo, hpa, fun l => hshows.mem_hist_of_not_allowed (htcxoAction l),
    hshows.mem_hist_of_not_allowed hpaAction⟩

end

/-! The start of an operation (44_pipeline.md): `TRANSMIT`, `SEND`, `RECEIVE` and `START_CAD`, each in the closed form of
the operations it shares with the others. -/

namespace Sys2Proof.Machine

/-! ### The mode write that ends a start (R140) -/

/-- A mode write told by the answers an earlier state `s` has still to consume, `n` of which are gone by now. -/
theorem setOperationMode_since {s u : State} {n : Nat} (hc : u.cfg = s.cfg) (ha : u.answers = s.answers.drop n)
    (hr : u.reads = s.reads + n) (mode : OpMode) : setOperationMode mode u =
      { u.after (modeReads s.cfg mode) (modeEvents s.cfg (answer s) n mode) with
        gpio := pinsDriven s.cfg.wiring (modeLevels s.cfg mode (answer s n)) u.gpio } := by
  rw [setOperationMode_eq, hc, answer_of_drop ha hr, modeEvents_shift, Nat.add_zero]
  rfl

/-! ### `TRANSMIT` (R164) -/

theorem exec_transmit (ms : Word) (s : State) : exec (.transmit ms) s = .next (transmit ms s) := rfl

/-- `TRANSMIT` told by the answers an earlier state `s` has still to consume, `n` of which are gone by now: from `s` to `u`
no field changed that it reads. -/
theorem transmit_since {s u : State} {n : Nat} (hc : u.cfg = s.cfg) (hm : u.modem = s.modem) (hl : u.lora = s.lora)
    (hf : u.fskPh.fifoThresh = s.fskPh.fifoThresh) (ha : u.answers = s.answers.drop n) (hr : u.reads = s.reads + n)
    (ms : Word) : transmit ms u =
      { u.after (transmitReads s + modeReads s.cfg .transmitter) (transmitEvents s n ms) with
        state := .txRunning, timer := .armed ms, gpio := transmitLevels s n u.gpio,
        fskPh := { u.fskPh with fifoThresh := transmitThresh s n } } := by
  obtain ⟨hreads, hevents, hthresh, hlevels⟩ := transmit_of hc hm hl hf ha hr 0 ms u.gpio
  rw [transmit_eq, hreads, hevents, hthresh, hlevels, hc, Nat.add_zero]
  rfl

/-! ### The wake before a FIFO write (R162) -/

/-- `s` after `WakeIfSleep` (R162), with the events shown before and after it, and the packet records a `SEND` has made. -/
def State.awake (s : State) (before later : List Event) (p : FskPacket) (q : LoraPacket) : State :=
  { (s.after (wakeReads s.cfg (answer s 0)) (before ++ wakeEvents s.cfg (answer s) 0 ++ later)).put s.modem
      (if sleeps s.cfg (answer s 0) then .idle else s.state)
      (if sleeps s.cfg (answer s 0) then .disarmed else s.timer) (wakeLevels s.cfg (answer s) 0 s.gpio) with
    fskPh := p, loraPh := q }

theorem wakeIfSleep_eq_awake (s : State) (before : List Event) (p : FskPacket) (q : LoraPacket) :
    wakeIfSleep { s.after 0 before with fskPh := p, loraPh := q } = s.awake before [] p q := by
  rw [wakeIfSleep_eq, State.awake, List.append_nil, ← Nat.zero_add (wakeReads s.cfg (answer s 0)), ← after_after]
  rfl

theorem awake_after (s : State) (before later l : List Event) (p : FskPacket) (q : LoraPacket) :
    (s.awake before later p q).after 0 l = s.awake before (later ++ l) p q := by
  refine State.ext_trace rfl rfl rfl ?_
  simp only [State.awake, State.put, State.after_hist, List.append_assoc]

/-- `TRANSMIT` overwrites what the wake made of the operating state and the timer. -/
theorem transmit_awake {s : State} {p : FskPacket} {w : Nat} (hp : p.fifoThresh = s.fskPh.fifoThresh)
    (hw : wakeReads s.cfg (answer s 0) = w) (before later : List Event) (q : LoraPacket) (ms : Word) :
    transmit ms (s.awake before later p q) =
      { s.after (w + (transmitReads s + modeReads s.cfg .transmitter))
          (before ++ wakeEvents s.cfg (answer s) 0 ++ later ++ transmitEvents s w ms) with
        state := .txRunning, timer := .armed ms, gpio := transmitLevels s w (wakeLevels s.cfg (answer s) 0 s.gpio),
        fskPh := { p with fifoThresh := transmitThresh s w }, loraPh := q } := by
  subst hw
  rw [transmit_since (s := s) (u := s.awake before later p q) rfl rfl rfl hp rfl rfl]
  refine State.ext_trace rfl ?_ ?_ ?_ <;>
    simp only [State.awake, State.put, State.after_answers, State.after_reads, State.after_hist, List.drop_drop,
      Nat.add_assoc, List.append_assoc]

/-! ### `SEND` (R160 to R163) -/

/-- The payload of a `SEND`, read back from the buffer it was stored in at 0. -/
theorem memRead_memWrite {s : State} (l : List Byte) {n : Nat} (hwf : Memory.wf s.dataBuf = true) (hn : n ≤ l.length) :
    memRead 0 n (memWrite 0 l s) = l.take n := by
  have hlen : (l.take n).length = n := by rw [List.length_take, Nat.min_eq_left hn]
  have hread := Memory.readList_eq (m := (memWrite 0 l s).dataBuf) 0 (l.take n) fun k hk => by
    rw [hlen] at hk
    change Memory.read (Memory.writeList s.dataBuf 0 l) (0 + k) = _
    rw [Memory.read_writeList 0 l (0 + k) hwf, if_pos (by omega)]
    simp [List.getD_eq_getElem?_getD, hk]
  rwa [hlen] at hread

/-- The buffer after a `SEND`: the payload below its size, the old bytes from there on. -/
theorem read_memWrite_zero {s : State} {l : List Byte} {n : Nat} (hwf : Memory.wf s.dataBuf = true) (hn : l.length = n)
    (a : Nat) :
    Memory.read (memWrite 0 l s).dataBuf a = if a < n then l.getD a 0 else Memory.read s.dataBuf a := by
  subst hn
  change Memory.read (Memory.writeList s.dataBuf 0 l) a = _
  rw [Memory.read_writeList 0 l a hwf]
  simp only [Nat.zero_le, true_and, Nat.zero_add, Nat.sub_zero]

theorem exec_send_fsk {s : State} {size : Byte} {l : List Byte} (hm : s.modem = .fsk) (hl : l.length = size.toNat)
    (hfit : size.toNat ≤ s.cfg.maxDataBufferSize) :
    exec (.send size l) s = andThen (sendFsk size (memWrite 0 l s)) (fun t => .next (respond [] t)) := by
  change execSend size l s = _
  rw [execSend, if_pos ⟨hl, by simpa [inBuffer] using hfit⟩, hm]

theorem exec_send_lora {s : State} {size : Byte} {l : List Byte} (hm : s.modem = .lora) (hl : l.length = size.toNat)
    (hfit : size.toNat ≤ s.cfg.maxDataBufferSize) :
    exec (.send size l) s = .next (respond [] (sendLora size (memWrite 0 l s))) := by
  change execSend size l s = _
  rw [execSend, if_pos ⟨hl, by simpa [inBuffer] using hfit⟩, hm]

/-- An empty body is a body of one chunk: `size = 0` needs no case of its own (R161). -/
theorem firstChunk_eq (c : Config) (n : Nat) :
    firstChunk c n = if n ≤ c.fskSingleWriteMax then n else c.fifoBurst := by
  rw [firstChunk]
  split
  · next hempty => rw [hempty, if_pos (Nat.zero_le _)]
  · rfl

theorem chunkField_of_byte {n : Nat} (h : n ≤ 255) : chunkField n = BitVec.ofNat 8 n := if_pos (by omega)

theorem nbBytesField_of_byte {n : Nat} (h : n ≤ 255) : nbBytesField n = BitVec.ofNat 16 n := if_pos (by omega)

/-- The length of an FSK body on its way out (R161): the fixed-length register, or a byte in front of it. -/
def fskLengthEvents (s : State) (size : Byte) : List Event :=
  if s.fsk.fixLen then [writeOf s.cfg.regmap.payloadLength size] else [.busWrite regFifo [size]]

/-- The length and the two FIFO addresses of a LoRa `SEND` (R163). -/
def addressEvents (r : RegMap) (size : Byte) : List Event :=
  [writeOf r.lrPayloadLength size, writeOf r.lrFifoTxBaseAddr 0, writeOf r.lrFifoAddrPtr 0]

/-- The FSK packet record of a `SEND` whose first chunk is written (R161). -/
def chunkSent (p : FskPacket) (size : Byte) (chunk : Nat) : FskPacket :=
  { p with size := size.setWidth 16, nbBytes := BitVec.ofNat 16 chunk, chunkSize := BitVec.ofNat 8 chunk }

/-- `SendFsk` (R161): the wake, the length, the first chunk of the buffer, then `TRANSMIT`. -/
theorem sendFsk_eq {s : State} {size : Byte} {chunk : Nat} (hwf : s.cfg.wellFormed = true)
    (hfit : size.toNat ≤ s.cfg.maxDataBufferSize) (hchunk : firstChunk s.cfg size.toNat = chunk) :
    sendFsk size s = .next (transmit s.fsk.txTimeout (s.awake []
      (fskLengthEvents s size ++ fifoWriteOf (memRead 0 chunk s)) (chunkSent s.fskPh size chunk) s.loraPh)) := by
  subst hchunk
  obtain ⟨hle, hbyte, -⟩ := firstChunk_le hwf size.toNat
  have hin : inBuffer 0 (firstChunk s.cfg size.toNat) s = true := decide_eq_true (by omega)
  have hlength (p : FskPacket) : sendFskLength size (wakeIfSleep { s with fskPh := p }) =
      s.awake [] (fskLengthEvents s size) p s.loraPh := by
    have hwake := wakeIfSleep_eq_awake s [] p s.loraPh
    rw [after_nil] at hwake
    rw [hwake, sendFskLength_eq, awake_after]
    rfl
  simp only [sendFsk, hlength, fifoWrite_eq]
  refine (if_pos hin).trans ?_
  rw [chunkField_of_byte hbyte, nbBytesField_of_byte hbyte, ← awake_after]
  rfl

/-- `SendLora` (R163): the three register writes, the wake, the whole payload, then `TRANSMIT`. -/
theorem sendLora_eq (size : Byte) (s : State) :
    sendLora size s = transmit s.lora.txTimeout (s.awake (addressEvents s.cfg.regmap size)
      (fifoWriteOf (memRead 0 size.toNat s)) s.fskPh { s.loraPh with size := size }) := by
  have hwake : wakeIfSleep (regWrite s.cfg.regmap.lrFifoAddrPtr 0 (regWrite s.cfg.regmap.lrFifoTxBaseAddr 0
      (regWrite s.cfg.regmap.lrPayloadLength size { s with loraPh := { s.loraPh with size := size } }))) =
      s.awake (addressEvents s.cfg.regmap size) [] s.fskPh { s.loraPh with size := size } := by
    rw [regWrite_eq, regWrite_eq, regWrite_eq, after_after, after_after]
    exact wakeIfSleep_eq_awake s _ s.fskPh _
  simp only [sendLora, hwake, fifoWrite_eq, awake_after, List.nil_append]
  rfl

theorem transmitThresh_lora {s : State} (hm : s.modem = .lora) (k : Nat) : transmitThresh s k = s.fskPh.fifoThresh :=
  if_neg (by simp [hm])

/-! ### `RECEIVE` (R166) -/

/-- The mapping, and for FSK the threshold and the cleared packet state (R166). -/
theorem receivePrepare_fsk {s : State} (hm : s.modem = .fsk) : let n := seqReads s.cfg.chipSeq.rxMapFsk
    receivePrepare s = { s.after (n + 1) (seqEvents (answer s) 0 s.cfg.chipSeq.rxMapFsk
        ++ [readOf s.cfg.regmap.fifoThresh (answer s n)]) with
      fskPh := { clearedPacket s.fskPh with fifoThresh := answer s n &&& s.cfg.regmap.fifoThreshMask } } := by
  intro n
  rw [receivePrepare, hm, ← after_after]
  simp only [applySeq_eq, captureFifoThresh_eq, answer_after]
  rfl

theorem receivePrepare_lora {s : State} (hm : s.modem = .lora) :
    let map := rxMapLora s.cfg.chipSeq s.lora.freqHopOn s.lora.rxContinuous
    receivePrepare s = s.after (seqReads map) (seqEvents (answer s) 0 map) := by
  intro map
  rw [receivePrepare, hm]
  exact applySeq_eq map s

/-- The whole buffer zeroed: nothing at or above its bound changes. -/
theorem read_zeroBuffer (s : State) (a : Nat) : Memory.read (zeroBuffer s).dataBuf a =
    if a < s.cfg.maxDataBufferSize then 0 else Memory.read s.dataBuf a :=
  Memory.read_filter s.dataBuf s.cfg.maxDataBufferSize a

/-- `RECEIVE` after its preparation, which differs between the modems. -/
theorem exec_receive_of_prepared {s : State} {n : Nat} {ev : List Event} {p : FskPacket} {mode : OpMode}
    (hprep : receivePrepare s = { s.after n ev with fskPh := p }) (hmode : receiveMode s = mode) :
    exec .receive s = .next
      { s.after (n + modeReads s.cfg mode) (ev ++ modeEvents s.cfg (answer s) n mode ++ [okResponse []]) with
        state := .rxRunning, dataBuf := (zeroBuffer s).dataBuf,
        gpio := pinsDriven s.cfg.wiring (modeLevels s.cfg mode (answer s n)) s.gpio, fskPh := p } := by
  change execReceive s = _
  have hwrite := setOperationMode_since (s := s) (n := n)
    (u := { zeroBuffer { s.after n ev with fskPh := p } with state := .rxRunning }) rfl rfl rfl mode
  rw [execReceive, hprep, hmode, hwrite, respond_eq]
  refine congrArg Host.Outcome.next (State.ext_trace rfl ?_ ?_ ?_) <;>
    simp only [State.after, zeroBuffer, List.drop_drop, Nat.add_zero, Nat.add_assoc, List.append_assoc]

/-! ### `START_CAD` (R168) -/

theorem exec_startCad_lora {s : State} (hm : s.modem = .lora) : let n := seqReads s.cfg.chipSeq.cadMap
    exec .startCad s = .next { s.after (n + modeReads s.cfg .cad) (seqEvents (answer s) 0 s.cfg.chipSeq.cadMap
        ++ modeEvents s.cfg (answer s) n .cad ++ [okResponse []]) with
      state := .cad, gpio := pinsDriven s.cfg.wiring (modeLevels s.cfg .cad (answer s n)) s.gpio } := by
  intro n
  change execStartCad s = _
  rw [execStartCad, hm]
  simp only [applySeq_eq, respond_eq]
  rw [setOperationMode_since (s := s) (u := s.after n _) (n := n) rfl rfl rfl]
  refine congrArg Host.Outcome.next (State.ext_trace rfl ?_ ?_ ?_) <;>
    simp only [State.after, List.drop_drop, Nat.add_zero, Nat.add_assoc, List.append_assoc, n]

end Sys2Proof.Machine

section

open Sys2Proof Sys2Proof.Machine

/-- Settles O44: the closed form of `TRANSMIT`. -/
theorem transmit : Obligations.Transmit := by
  intro s ms
  rw [exec_transmit, transmit_eq]
  rfl

/-- Settles O45: the body framed and sent from the state that holds its bytes at 0. -/
theorem sendFsk : Obligations.SendFsk := by
  intro s size buffer hm hwf hmem hlen hfit chunk w
  have hchunk : firstChunk s.cfg size.toNat = chunk := firstChunk_eq s.cfg size.toNat
  have hle : chunk ≤ buffer.length := by
    rw [hlen, ← hchunk]
    exact (firstChunk_le hwf size.toNat).1
  rw [exec_send_fsk hm hlen hfit, sendFsk_eq (s := memWrite 0 buffer s) hwf hfit hchunk,
    memRead_memWrite buffer hmem hle, transmit_awake (s := memWrite 0 buffer s) (w := w) (p := chunkSent _ _ _) rfl rfl]
  refine ⟨_, rfl, State.ext_trace rfl rfl rfl ?_, read_memWrite_zero hmem hlen⟩
  simp only [respond_eq, State.after_hist, List.append_assoc]
  rfl

/-- Settles O46: the whole payload is one burst between the wake and `TRANSMIT`. -/
theorem sendLora : Obligations.SendLora := by
  intro s size buffer hm hmem hlen hfit w
  rw [exec_send_lora hm hlen hfit, sendLora_eq, memRead_memWrite buffer hmem hlen.ge, ← hlen, List.take_length,
    transmit_awake (s := memWrite 0 buffer s) (w := w) rfl rfl, transmitThresh_lora (s := memWrite 0 buffer s) hm]
  refine ⟨_, rfl, State.ext_trace rfl rfl rfl ?_, read_memWrite_zero hmem rfl⟩
  simp only [respond_eq, State.after_hist, List.append_assoc]
  rfl

/-- Settles O47: the two modems differ in what they prepare and in the mode they write. -/
theorem receive : Obligations.Receive := by
  intro s
  constructor
  · intro hm n
    have hmode : receiveMode s = .receiver := by rw [receiveMode, hm]
    exact ⟨_, exec_receive_of_prepared (receivePrepare_fsk hm) hmode, rfl, read_zeroBuffer s⟩
  · intro hm map mode
    have hmode : receiveMode s = mode := by rw [receiveMode, hm]
    exact ⟨_, exec_receive_of_prepared (receivePrepare_lora hm) hmode, rfl, read_zeroBuffer s⟩

/-- Settles O48: no bus transaction under FSK; under LoRa the mapping and the mode write. -/
theorem startCad : Obligations.StartCad := fun _ => ⟨exec_startCad_fsk, exec_startCad_lora⟩

end

/-! The event handlers (45_event_handlers.md). First the table of R200 as equations: which part of a handler runs in
which state and modem. Then each part in the closed form of the operations it shares with the others. -/

namespace Sys2Proof.Machine

/-! ### Which part of a handler runs (R191, R193, R195, R197 to R201) -/

section Cells

variable {s : State}

theorem exec_dio0Irq_rxFsk (hs : s.state = .rxRunning) (hm : s.modem = .fsk) : exec .dio0Irq s = dio0RxFsk s := by
  change execDio0Irq s = _
  rw [execDio0Irq, hs, hm]

theorem exec_dio0Irq_rxLora (hs : s.state = .rxRunning) (hm : s.modem = .lora) :
    exec .dio0Irq s = .next (dio0RxLora s) := by
  change execDio0Irq s = _
  rw [execDio0Irq, hs, hm]

theorem exec_dio0Irq_tx (hs : s.state = .txRunning) : exec .dio0Irq s = .next (dio0Tx s) := by
  change execDio0Irq s = _
  rw [execDio0Irq, hs]

theorem exec_dio0Irq_unused (hs : s.state = .idle ∨ s.state = .cad) : exec .dio0Irq s = .next s := by
  change execDio0Irq s = _
  obtain hs | hs := hs <;> rw [execDio0Irq, hs]

theorem exec_dio1Irq_rxFsk (hs : s.state = .rxRunning) (hm : s.modem = .fsk) : exec .dio1Irq s = dio1RxFsk s := by
  change execDio1Irq s = _
  rw [execDio1Irq, hs, hm]

theorem exec_dio1Irq_txFsk (hs : s.state = .txRunning) (hm : s.modem = .fsk) : exec .dio1Irq s = dio1TxFsk s := by
  change execDio1Irq s = _
  rw [execDio1Irq, hs, hm]

theorem exec_dio1Irq_rxLora (hs : s.state = .rxRunning) (hm : s.modem = .lora) :
    exec .dio1Irq s = .next (dio1RxLora s) := by
  change execDio1Irq s = _
  rw [execDio1Irq, hs, hm]

theorem exec_dio1Irq_txLora (hs : s.state = .txRunning) (hm : s.modem = .lora) : exec .dio1Irq s = .next s := by
  change execDio1Irq s = _
  rw [execDio1Irq, hs, hm]

theorem exec_dio1Irq_unused (hs : s.state = .idle ∨ s.state = .cad) : exec .dio1Irq s = .next s := by
  change execDio1Irq s = _
  obtain hs | hs := hs <;> rw [execDio1Irq, hs]

theorem exec_dio2Irq_rxFsk (hs : s.state = .rxRunning) (hm : s.modem = .fsk) :
    exec .dio2Irq s = .next (dio2RxFsk s) := by
  change execDio2Irq s = _
  rw [execDio2Irq, hs, hm]

theorem exec_dio2Irq_lora (hs : s.state = .rxRunning ∨ s.state = .txRunning) (hm : s.modem = .lora) :
    exec .dio2Irq s = .next (dio2Lora s) := by
  change execDio2Irq s = _
  obtain hs | hs := hs <;> rw [execDio2Irq, hs, hm]

theorem exec_dio2Irq_txFsk (hs : s.state = .txRunning) (hm : s.modem = .fsk) : exec .dio2Irq s = .next s := by
  change execDio2Irq s = _
  rw [execDio2Irq, hs, hm]

theorem exec_dio2Irq_unused (hs : s.state = .idle ∨ s.state = .cad) : exec .dio2Irq s = .next s := by
  change execDio2Irq s = _
  obtain hs | hs := hs <;> rw [execDio2Irq, hs]

theorem exec_dio3Irq_fsk (hm : s.modem = .fsk) : exec .dio3Irq s = .next s := by
  change execDio3Irq s = _
  rw [execDio3Irq, hm]

theorem exec_dio3Irq_lora (hm : s.modem = .lora) : exec .dio3Irq s = .next (dio3Lora s) := by
  change execDio3Irq s = _
  rw [execDio3Irq, hm]

theorem exec_dio4Irq_fsk (hm : s.modem = .fsk) : exec .dio4Irq s = .next (latchPreamble s) := by
  change execDio4Irq s = _
  rw [execDio4Irq, hm]

theorem exec_dio4Irq_lora (hm : s.modem = .lora) : exec .dio4Irq s = .next s := by
  change execDio4Irq s = _
  rw [execDio4Irq, hm]

theorem exec_dio5Irq (s : State) : exec .dio5Irq s = .next s := rfl

theorem exec_timeoutIrq_tx (hs : s.state = .txRunning) : exec .timeoutIrq s = .next (timeoutRecovery s) := by
  change execTimeoutIrq s = _
  rw [execTimeoutIrq, hs]

theorem exec_timeoutIrq_unused (hs : s.state ≠ .txRunning) : exec .timeoutIrq s = .next s := by
  change execTimeoutIrq s = _
  rw [execTimeoutIrq]
  cases hst : s.state with
  | txRunning => exact absurd hst hs
  | idle | rxRunning | cad => rfl

end Cells

/-! ### The ends of an operation (R153, R183, R186, R192, R194) -/

section Ends

variable (s : State)

/-- The end of a reception as an update of two fields: it commutes with an update of the others by computation. -/
theorem received_eq (c : Bool) : s.received c =
    { s with state := if c then s.state else .idle, timer := if c then s.timer else .disarmed } := by cases c <;> rfl

/-- The end of an FSK reception with its callback, which nothing before it depends on. -/
theorem emit_fskRxEnd (c : Callback) : emit c (fskRxEnd s) =
    (s.after (fskEndReads s) (fskEndEvents s 0 ++ callbackEvents s.cbSet c)).received s.fsk.rxContinuous := by
  rw [emit_eq, fskRxEnd_eq, received_after, after_after, received_cbSet, State.after_cbSet, Nat.add_zero]

/-- What the end of a LoRa reception shows: a single-shot receiver goes `Idle` (R153, R186). -/
def loraEndEvents (s : State) : List Event := if s.lora.rxContinuous then [] else [.timerCancel]

theorem emit_loraRxEnd (c : Callback) : emit c (loraRxEnd s) =
    (s.after 0 (loraEndEvents s ++ callbackEvents s.cbSet c)).received s.lora.rxContinuous := by
  rw [emit_eq, loraRxEnd_eq, received_after, after_after, received_cbSet, State.after_cbSet]
  rfl

theorem dio0Tx_eq : dio0Tx s = { s.after 0 (.timerCancel ::
    (if s.modem = .lora then [writeOf s.cfg.regmap.lrIrqFlags s.cfg.regmap.lrTxDone] else [])
    ++ callbackEvents s.cbSet .txDone) with state := .idle, timer := .disarmed } := by
  rw [dio0Tx, emit_eq]
  cases hm : s.modem with
  | fsk => exact State.ext_trace rfl rfl rfl (List.append_assoc ..)
  | lora =>
    refine State.ext_trace rfl rfl rfl ?_
    simp only [State.after_hist, regWrite_hist, timerCancel_hist, List.append_assoc]
    rfl

theorem dio1RxLora_eq : dio1RxLora s = { s.after 0
    ([writeOf s.cfg.regmap.lrIrqFlags s.cfg.regmap.lrRxTimeout, .timerCancel] ++ callbackEvents s.cbSet .rxTimeout) with
    state := .idle, timer := .disarmed } := by
  rw [dio1RxLora, emit_eq, goIdle_eq, regWrite_eq, after_after, put_after, after_after]
  rfl

end Ends

end Sys2Proof.Machine

namespace Sys2Proof.Machine

/-! ### The other lines (R195 to R197) -/

section OtherLines

variable (s : State)

theorem dio2RxFsk_eq : dio2RxFsk s =
    { (s.after (abortReads s) (seqEvents (answer s) 0 s.cfg.chipSeq.fskRxAbortClear
        ++ fskEndEvents s (seqReads s.cfg.chipSeq.fskRxAbortClear)
        ++ callbackEvents s.cbSet .rxTimeout)).received s.fsk.rxContinuous with fskPh := clearedPacket s.fskPh } := by
  rw [dio2RxFsk, clearFskPacketState_eq, applySeq_eq, emit_fskRxEnd, after_after, fskEndEvents_after,
    ← List.append_assoc, received_eq, received_eq]
  rfl

theorem dio2Lora_hop (h : s.lora.freqHopOn = true) : dio2Lora s =
    s.after 1 ([writeOf s.cfg.regmap.lrIrqFlags s.cfg.regmap.lrFhssChangedChannel,
      readOf s.cfg.regmap.lrHopChannel (answer s 0)]
      ++ callbackEvents s.cbSet (.fhssChangeChannel (answer s 0 &&& s.cfg.regmap.hopChannelMask))) := by
  rw [dio2Lora, if_pos h]
  simp only [regWrite_eq, regRead_eq, emit_eq, after_after, answer_after]
  rfl

theorem dio2Lora_noHop (h : s.lora.freqHopOn = false) : dio2Lora s = s := by
  rw [dio2Lora, if_neg (by simp [h])]

/-- The flags `Dio3Lora` clears: the done flag, and the detected one where it is set (R197). -/
def cadEvents (s : State) : List Event :=
  [readOf s.cfg.regmap.lrIrqFlags (answer s 0), writeOf s.cfg.regmap.lrIrqFlags
    (if flagSet (answer s 0) s.cfg.regmap.lrCadDetected then s.cfg.regmap.lrCadDetected ||| s.cfg.regmap.lrCadDone
      else s.cfg.regmap.lrCadDone)]

theorem dio3Lora_of_cad (h : s.state = .cad) : dio3Lora s =
    { s.after 1 (cadEvents s ++ .timerCancel ::
        callbackEvents s.cbSet (.cadDone (flagSet (answer s 0) s.cfg.regmap.lrCadDetected))) with
      state := .idle, timer := .disarmed } := by
  simp only [dio3Lora, h, regRead_eq, regWrite_eq, goIdle_eq, emit_eq, put_after, after_after]
  rfl

theorem dio3Lora_of_not_cad (h : s.state ≠ .cad) : dio3Lora s =
    s.after 1 (cadEvents s ++ callbackEvents s.cbSet (.cadDone (flagSet (answer s 0) s.cfg.regmap.lrCadDetected))) := by
  cases hs : s.state with
  | cad => exact absurd hs h
  | idle | rxRunning | txRunning =>
    simp only [dio3Lora, hs, regRead_eq, regWrite_eq, emit_eq, after_after]
    rfl

end OtherLines

/-! ### The full recovery (R199) -/

section Recovery

variable (s : State)

/-- The block before the recovery's initial writes: the timer cancelled, the chip asleep. -/
def State.asleep (s : State) : State :=
  { s.after 1 (.timerCancel :: modeEvents s.cfg (answer s) 0 .sleep) with
    timer := .disarmed, gpio := pinsDriven s.cfg.wiring (lowPowerPins s.cfg.wiring) s.gpio }

theorem sleep_timerCancel_eq : setOperationMode .sleep (timerCancel s) = s.asleep := by
  rw [setOperationMode_since (s := s) (u := timerCancel s) (n := 0) rfl rfl rfl, modeReads_sleep]
  exact State.ext_trace rfl rfl rfl (List.append_assoc ..)

theorem asleep_control : Control (timerCancel s) s.asleep := by
  rw [← sleep_timerCancel_eq]
  exact setOperationMode_control ..

/-- The block with every default register written and FSK selected: all of the recovery's mode control but the selection
of LoRa. -/
def State.restored (s : State) : State := s.asleep.withDefaults.withModem .fsk

theorem restored_control : Control (timerCancel s) s.restored := by
  have hdefaults := loadDefaultRegisters_control s.asleep
  have hfsk := setModem_control s.asleep.withDefaults .fsk
  rw [loadDefaultRegisters_eq] at hdefaults
  rw [setModem_eq] at hfsk
  exact ((asleep_control s).trans hdefaults).trans hfsk

/-- The sync word of the stored setting, written (R199, R221). -/
def syncwordWrite (s : State) : Event := writeOf s.cfg.regmap.lrSyncWord (syncword s.cfg s.lora.publicNetwork)

/-- The stored public-network setting written back as it is: no configuration changes (R199, R221). -/
theorem setPublicNetworkOp_stored : setPublicNetworkOp s.lora.publicNetwork s =
    (s.withModem .lora).after 0 [syncwordWrite s] := by
  rw [setPublicNetworkOp_eq, withModem_eq]
  rfl

/-- The recovery's last transaction and its callback (R199). -/
def recoveryEvents (s : State) : List Event := syncwordWrite s :: callbackEvents s.cbSet .txTimeout

theorem timeoutRecovery_eq : timeoutRecovery s =
    { (s.restored.withModem .lora).after 0 (recoveryEvents s) with state := .idle } := by
  have hframe := restored_control s
  have hcfg : s.restored.cfg = s.cfg := hframe.cfg
  have hlora : s.restored.lora = s.lora := hframe.lora
  have hcb : s.restored.cbSet = s.cbSet := by rw [hframe.frame.eq]; rfl
  have hrun : timeoutRecovery s =
      emit .txTimeout { setPublicNetworkOp s.lora.publicNetwork s.restored with state := .idle } := by
    rw [timeoutRecovery, sleep_timerCancel_eq, loadDefaultRegisters_eq, setModem_eq]
    rfl
  have hevents : recoveryEvents s.restored = recoveryEvents s := by
    rw [recoveryEvents, syncwordWrite, hcfg, hlora, hcb]
    rfl
  rw [hrun, ← hlora, setPublicNetworkOp_stored, emit_eq, ← hevents]
  refine State.ext_trace rfl rfl rfl ?_
  simp only [State.after_hist, State.after_cbSet, withModem_cbSet, List.append_assoc]
  rfl

theorem timeoutRecovery_frame : timeoutRecovery s = { s with
    state := .idle, timer := .disarmed, modem := .lora, gpio := (timeoutRecovery s).gpio,
    answers := (timeoutRecovery s).answers, reads := (timeoutRecovery s).reads, hist := (timeoutRecovery s).hist } := by
  have hlora := setModem_control s.restored .lora
  rw [setModem_eq] at hlora
  have hcontrol := (restored_control s).trans hlora
  have hdisarmed := hcontrol.disarmed rfl
  have hmodem : (s.restored.withModem .lora).modem = .lora := withModem_modem ..
  rw [timeoutRecovery_eq]
  generalize s.restored.withModem .lora = t at hcontrol hdisarmed hmodem
  obtain ⟨m, st, tm, g, n, ev, rfl⟩ := hcontrol.frame
  obtain rfl : tm = .disarmed := hdisarmed
  obtain rfl : m = .lora := hmodem
  rfl

theorem timeoutRecovery_modem : (timeoutRecovery s).modem = .lora := congrArg State.modem (timeoutRecovery_frame s)

end Recovery

end Sys2Proof.Machine

section

open Sys2Proof Sys2Proof.Machine

/-- Settles O58: neither handler reads the chip, and the continuous flag is not looked at. -/
theorem txDoneAndRxTimeout : Obligations.TxDoneAndRxTimeout := by
  intro s
  constructor
  · intro hs
    rw [exec_dio0Irq_tx hs, dio0Tx_eq]
  · intro hs hm
    rw [exec_dio1Irq_rxLora hs hm, dio1RxLora_eq]

/-- Settles O59: one line of the table after another, in the closed form of its part. -/
theorem otherLines : Obligations.OtherLines := by
  intro s
  refine ⟨fun hs hm => ?_, fun hs hm hhop => ?_, fun hm => ⟨fun hs => ?_, fun hs => ?_⟩,
    fun hm => ⟨exec_dio3Irq_fsk hm, exec_dio4Irq_fsk hm⟩, exec_dio4Irq_lora, exec_dio5Irq s⟩
  · rw [exec_dio2Irq_rxFsk hs hm, dio2RxFsk_eq]
  · rw [exec_dio2Irq_lora hs hm, dio2Lora_hop s hhop]
  · exact (exec_dio3Irq_lora hm).trans (congrArg Host.Outcome.next (dio3Lora_of_cad s hs))
  · exact (exec_dio3Irq_lora hm).trans (congrArg Host.Outcome.next (dio3Lora_of_not_cad s hs))

/-- Settles O60: the frame is that of mode control, which keeps the cancelled timer disarmed. -/
theorem timeoutRecovery : Obligations.TimeoutRecovery := by
  refine fun s => ⟨fun hs => ?_, exec_timeoutIrq_unused⟩
  intro a m t
  have ht : Sys2Proof.Machine.timeoutRecovery s = t := timeoutRecovery_eq s
  rw [exec_timeoutIrq_tx hs, ← ht]
  exact ⟨rfl, timeoutRecovery_frame s⟩

end

namespace Sys2Proof.Machine

/-! ### The FSK packet (R182 to R185, R190, R193) -/

section FskPacketAbort

variable {s : State}

/-- An abort told from a state before other events. -/
theorem aborted_of_after (s : State) (n k : Nat) (l l' : List Event) :
    (s.after n l).aborted k l' = s.aborted (n + k) (l ++ l') := by
  rw [← aborted_after, after_after, aborted_after]

/-- What the CRC check shows (R183, R185): one read, if the check is enabled. -/
def crcEvents (s : State) : List Event := if s.fsk.crcOn then [readOf s.cfg.regmap.irqFlags2 (answer s 0)] else []

/-- The bytes the chip answers to the CRC check. -/
def crcReads (s : State) : Nat := if s.fsk.crcOn then 1 else 0

theorem dio0RxFsk_of_good (hcrc : s.fsk.crcOn = true → flagSet (answer s 0) s.cfg.regmap.irq2CrcOk = true) :
    dio0RxFsk s = fskComplete (s.after (crcReads s) (crcEvents s)) := by
  rw [dio0RxFsk, crcReads, crcEvents]
  cases hon : s.fsk.crcOn with
  | false => exact congrArg fskComplete (after_nil s).symm
  | true => exact if_pos (hcrc hon)

theorem dio0RxFsk_of_bad (hon : s.fsk.crcOn = true) (hcrc : flagSet (answer s 0) s.cfg.regmap.irq2CrcOk = false) :
    dio0RxFsk s = .next (s.aborted 1 [readOf s.cfg.regmap.irqFlags2 (answer s 0)]) := by
  rw [dio0RxFsk, if_pos hon, ← aborted_after, ← fskRxAbort_eq]
  exact if_neg (by simp [regRead_eq, hcrc])

theorem fskExtractLength_of_over (hu : lengthUnknown s = true) (hover : (answer s 0).toNat > s.cfg.maxDataBufferSize) :
    fskExtractLength s = (false, s.aborted 1 (lengthEvents s (answer s 0))) := by
  rw [fskExtractLength_eq, if_pos hu, if_pos hover]

theorem fskComplete_of_over (hu : lengthUnknown s = true) (hover : (answer s 0).toNat > s.cfg.maxDataBufferSize) :
    fskComplete s = .next (s.aborted 1 (lengthEvents s (answer s 0))) := by
  rw [fskComplete, fskExtractLength_of_over hu hover]
  rfl

theorem dio1RxFsk_of_over (hu : lengthUnknown s = true) (hover : (answer s 0).toNat > s.cfg.maxDataBufferSize) :
    dio1RxFsk s = .next (s.aborted 1 (lengthEvents s (answer s 0))) := by
  rw [dio1RxFsk, fskExtractLength_of_over hu hover]
  rfl

/-- An over-long packet at DIO0, after the CRC check (R184). -/
theorem dio0RxFsk_of_over (hcrc : s.fsk.crcOn = true → flagSet (answer s 0) s.cfg.regmap.irq2CrcOk = true)
    (hu : lengthUnknown s = true) (hover : (answer s (crcReads s)).toNat > s.cfg.maxDataBufferSize) :
    dio0RxFsk s = .next (s.aborted (crcReads s + 1) (crcEvents s ++ lengthEvents s (answer s (crcReads s)))) := by
  have hfirst : answer (s.after (crcReads s) (crcEvents s)) 0 = answer s (crcReads s) := answer_after ..
  rw [dio0RxFsk_of_good hcrc, fskComplete_of_over (s := s.after _ _) hu (by rw [hfirst]; exact hover),
    aborted_of_after, hfirst]
  rfl

end FskPacketAbort

/-! ### A packet that fits (R182, R185, R193) -/

section FskPacketFits

variable {s : State}

/-- The length of the packet (R182): the one known, or the byte `v` read for it. -/
def packetSize (s : State) (v : Byte) : Nat := if !lengthUnknown s then s.fskPh.size.toNat else v.toNat

/-- The bytes the chip answers to learn the length. -/
def lengthReads (s : State) : Nat := if !lengthUnknown s then 0 else 1

/-- The read that learns the length, where it is not yet known. -/
def lengthShown (s : State) (v : Byte) : List Event := if !lengthUnknown s then [] else lengthEvents s v

theorem packetSize_lt (s : State) (v : Byte) : packetSize s v < 2 ^ 16 := by
  rw [packetSize]
  split <;> omega

@[simp] theorem toNat_packetSize (s : State) (v : Byte) :
    (BitVec.ofNat 16 (packetSize s v)).toNat = packetSize s v := by
  rw [BitVec.toNat_ofNat, Nat.mod_eq_of_lt (packetSize_lt s v)]

/-- A packet whose length is not known has moved no byte. -/
theorem moved_le_packetSize (h : s.fskPh.nbBytes.toNat ≤ s.fskPh.size.toNat) (v : Byte) :
    s.fskPh.nbBytes.toNat ≤ packetSize s v := by
  rw [packetSize]
  split
  · exact h
  next hu =>
    obtain ⟨-, hnb⟩ : s.fskPh.size = 0 ∧ s.fskPh.nbBytes = 0 := by simpa [lengthUnknown] using hu
    rw [hnb]
    exact Nat.zero_le _

/-- `s` after `n` bytes and the events `before`, then the length of a packet that fits (R182). -/
def State.sized (s : State) (n : Nat) (before : List Event) : State :=
  { s.after (n + lengthReads s) (before ++ lengthShown s (answer s n)) with
    fskPh := { s.fskPh with size := BitVec.ofNat 16 (packetSize s (answer s n)) } }

theorem fskExtractLength_of_fits {n : Nat} {before : List Event}
    (hfit : packetSize s (answer s n) ≤ s.cfg.maxDataBufferSize) :
    fskExtractLength (s.after n before) = (true, s.sized n before) := by
  have hunknown : lengthUnknown (s.after n before) = lengthUnknown s := rfl
  have hfirst : answer (s.after n before) 0 = answer s n := answer_after ..
  rw [fskExtractLength_eq, hunknown, hfirst]
  simp only [State.sized, packetSize, lengthReads, lengthShown] at hfit ⊢
  cases hu : lengthUnknown s with
  | true =>
    rw [hu] at hfit
    refine (if_pos rfl).trans ((if_neg (Nat.not_lt.2 hfit)).trans ?_)
    rw [after_after, ← BitVec.ofNat_toNat]
    rfl
  | false =>
    have hsize : BitVec.ofNat 16 s.fskPh.size.toNat = s.fskPh.size := by rw [BitVec.ofNat_toNat, BitVec.setWidth_eq]
    refine (if_neg nofun).trans (congrArg (Prod.mk true) ?_)
    show s.after n before =
      { s.after n (before ++ []) with fskPh := { s.fskPh with size := BitVec.ofNat 16 s.fskPh.size.toNat } }
    rw [List.append_nil, hsize]
    rfl

theorem half_add_ofNat (x : Half) (n : Nat) : x + BitVec.ofNat 16 n = BitVec.ofNat 16 (x.toNat + n) := by
  rw [BitVec.ofNat_add, BitVec.ofNat_toNat, BitVec.setWidth_eq]

/-- A drain of `n` bytes of a packet that fits, told from the state before its length was learnt (R185, R193). -/
theorem drainFsk_sized (s : State) (c n : Nat) (before : List Event) : drainFsk n (s.sized c before) =
    { s.after (c + lengthReads s + n)
        (before ++ lengthShown s (answer s c) ++ fifoReadOf (answersFrom s (c + lengthReads s) n)) with
      dataBuf := Memory.writeList s.dataBuf s.fskPh.nbBytes.toNat (answersFrom s (c + lengthReads s) n),
      fskPh := { s.fskPh with
        size := BitVec.ofNat 16 (packetSize s (answer s c)),
        nbBytes := BitVec.ofNat 16 (s.fskPh.nbBytes.toNat + n) } } := by
  have hbytes : answersFrom (s.sized c before) 0 n = answersFrom s (c + lengthReads s) n :=
    answersFrom_after s _ [] 0 n
  rw [drainFsk_eq, hbytes, ← half_add_ofNat, ← after_after]
  rfl

theorem packetInBuffer_sized {s : State} {c n : Nat} {before : List Event}
    (hmoved : s.fskPh.nbBytes.toNat ≤ packetSize s (answer s c))
    (hn : s.fskPh.nbBytes.toNat + n ≤ s.cfg.maxDataBufferSize) : packetInBuffer n (s.sized c before) = true := by
  rw [packetInBuffer_iff]
  refine ⟨?_, hn⟩
  show s.fskPh.nbBytes.toNat ≤ (BitVec.ofNat 16 (packetSize s (answer s c))).toNat
  rwa [toNat_packetSize]

theorem bytesLeft_sized (s : State) (c : Nat) (before : List Event) :
    bytesLeft (s.sized c before) = packetSize s (answer s c) - s.fskPh.nbBytes.toNat := by
  show (BitVec.ofNat 16 (packetSize s (answer s c))).toNat - s.fskPh.nbBytes.toNat = _
  rw [toNat_packetSize]

/-- The burst of DIO1 (R193). -/
theorem dio1RxFsk_of_fits (hmoved : s.fskPh.nbBytes.toNat ≤ packetSize s (answer s 0))
    (hfit : packetSize s (answer s 0) ≤ s.cfg.maxDataBufferSize) : dio1RxFsk s = .next (drainFsk
      (min (packetSize s (answer s 0) - s.fskPh.nbBytes.toNat) s.fskPh.fifoThresh.toNat) (s.sized 0 [])) := by
  have hlength := fskExtractLength_of_fits (n := 0) (before := []) hfit
  rw [after_nil] at hlength
  simp only [dio1RxFsk, hlength, bytesLeft_sized]
  exact if_pos (packetInBuffer_sized hmoved (by omega))

/-- The rest of the packet at DIO0, after the CRC check (R185). -/
theorem fskComplete_of_fits {c : Nat} {before : List Event}
    (hmoved : s.fskPh.nbBytes.toNat ≤ packetSize s (answer s c))
    (hfit : packetSize s (answer s c) ≤ s.cfg.maxDataBufferSize) : fskComplete (s.after c before) =
      .next (fskDeliver (drainFsk (packetSize s (answer s c) - s.fskPh.nbBytes.toNat) (s.sized c before))) := by
  simp only [fskComplete, fskExtractLength_of_fits hfit, bytesLeft_sized]
  exact if_pos (packetInBuffer_sized hmoved (by omega))

theorem dio0RxFsk_of_fits (hcrc : s.fsk.crcOn = true → flagSet (answer s 0) s.cfg.regmap.irq2CrcOk = true)
    (hmoved : s.fskPh.nbBytes.toNat ≤ packetSize s (answer s (crcReads s)))
    (hfit : packetSize s (answer s (crcReads s)) ≤ s.cfg.maxDataBufferSize) : dio0RxFsk s =
      .next (fskDeliver (drainFsk (packetSize s (answer s (crcReads s)) - s.fskPh.nbBytes.toNat)
        (s.sized (crcReads s) (crcEvents s)))) :=
  (dio0RxFsk_of_good hcrc).trans (fskComplete_of_fits hmoved hfit)

/-- The refill of DIO1 (R193). -/
theorem dio1TxFsk_eq (hmoved : s.fskPh.nbBytes.toNat ≤ s.fskPh.size.toNat)
    (hfit : s.fskPh.size.toNat ≤ s.cfg.maxDataBufferSize) :
    dio1TxFsk s = .next (refillFsk (min (bytesLeft s) s.fskPh.chunkSize.toNat) s) := by
  have hn : min (bytesLeft s) s.fskPh.chunkSize.toNat ≤ s.fskPh.size.toNat - s.fskPh.nbBytes.toNat :=
    Nat.min_le_left ..
  exact if_pos ((packetInBuffer_iff _ s).2 ⟨hmoved, by omega⟩)

end FskPacketFits

/-! ### The payload and its delivery (R53, R185, R190) -/

theorem readList_eq_map (m : Memory) (a n : Nat) :
    Memory.readList m a n = (List.range n).map (fun j => Memory.read m (a + j)) := by
  induction n generalizing a with
  | zero => rfl
  | succ n ih =>
    rw [Memory.readList, ih, List.range_succ_eq_map, List.map_cons, List.map_map]
    congr 2
    funext j
    simp only [Function.comp, Nat.succ_eq_add_one]
    congr 1
    omega

/-- The four readings of a good packet (R190), the first answer being `answer s k`. -/
def readingEvents (s : State) (k : Nat) : List Event :=
  [readOf s.cfg.regmap.rssiValue (answer s k), readOf s.cfg.regmap.afcMsb (answer s (k + 1)),
    readOf s.cfg.regmap.afcLsb (answer s (k + 2)), readOf s.cfg.regmap.lna (answer s (k + 3))]

/-- The packet record with those readings in it (R190). -/
def FskPacket.withReadings (p : FskPacket) (s : State) (k : Nat) : FskPacket :=
  { p with
    rssiValue := BitVec.ofInt 16 (fskRssi (answer s k)), afcValue := answer s (k + 1) ++ answer s (k + 2),
    rxGain := (answer s (k + 3) >>> 5) &&& 7 }

/-- The delivery of the packet in the buffer (R185): the readings, idle or restart, the callback, the state cleared. -/
theorem fskDeliver_eq (s : State) : fskDeliver s =
    { (s.after (4 + fskEndReads s) (readingEvents s 0 ++ fskEndEvents s 4
        ++ callbackEvents s.cbSet (.rxDone s.fskPh.size (BitVec.ofInt 16 (fskRssi (answer s 0))) 0
            (memRead 0 s.fskPh.size.toNat s)))).received s.fsk.rxContinuous with
      fskPh := (clearedPacket s.fskPh).withReadings s 0 } := by
  have hph : (fskRxEnd (captureFskReadings s)).fskPh = (captureFskReadings s).fskPh := (fskRxEnd_control _).fskPh
  have hbuf : (fskRxEnd (captureFskReadings s)).dataBuf = (captureFskReadings s).dataBuf := by
    rw [(fskRxEnd_control _).frame.eq]
  have hevents : fskEndEvents (captureFskReadings s) 0 = fskEndEvents s 4 := by
    rw [captureFskReadings_eq]
    exact fskEndEvents_after s 4 (readingEvents s 0) 0
  rw [fskDeliver]
  dsimp only
  rw [memRead, hph, hbuf, emit_fskRxEnd, hevents, clearFskPacketState_eq, received_fskPh]
  rw [captureFskReadings_eq, List.append_assoc, ← after_after, received_eq, received_eq]
  rfl

/-- A delivery told from a state before the drain: only the buffer and the packet record differ (R185). -/
theorem fskDeliver_since (s : State) (q : Nat) (ev : List Event) {m : Memory} {p : FskPacket} {payload : List Byte}
    (hpayload : Memory.readList m 0 p.size.toNat = payload) :
    fskDeliver { s.after q ev with dataBuf := m, fskPh := p } =
      { (s.after (q + 4 + fskEndReads s) (ev ++ readingEvents s q ++ fskEndEvents s (q + 4)
          ++ callbackEvents s.cbSet (.rxDone p.size (BitVec.ofInt 16 (fskRssi (answer s q))) 0
              payload))).received s.fsk.rxContinuous with
        dataBuf := m, fskPh := (clearedPacket p).withReadings s q } := by
  subst hpayload
  generalize hu : ({ s.after q ev with dataBuf := m, fskPh := p } : State) = u
  have hanswer : answer u = fun k => answer s (q + k) := by rw [← hu]; exact answer_of_drop rfl rfl
  have hread : readingEvents u 0 = readingEvents s q := by rw [readingEvents, hanswer, ← hu]; rfl
  have hend : fskEndEvents u 4 = fskEndEvents s (q + 4) := by rw [fskEndEvents, hanswer, ← hu]; rfl
  have hph : (clearedPacket u.fskPh).withReadings u 0 = (clearedPacket p).withReadings s q := by
    rw [FskPacket.withReadings, hanswer, ← hu]; rfl
  rw [fskDeliver_eq, hread, hend, hph, hanswer, ← hu, Nat.add_assoc, List.append_assoc ev, List.append_assoc ev,
    ← after_after s q, received_eq, received_eq]
  rfl

/-- The buffer after a drain (R53): `n` bytes from the first one not yet moved. -/
theorem read_drainFsk_sized {s : State} (hwf : Memory.wf s.dataBuf = true) (c n : Nat) (before : List Event) (a : Nat) :
    Memory.read (drainFsk n (s.sized c before)).dataBuf a =
      if s.fskPh.nbBytes.toNat ≤ a ∧ a < s.fskPh.nbBytes.toNat + n then
        (answersFrom s (c + lengthReads s) n).getD (a - s.fskPh.nbBytes.toNat) 0
      else Memory.read s.dataBuf a := by
  rw [drainFsk_sized]
  have hread := Memory.read_writeList s.fskPh.nbBytes.toNat (answersFrom s (c + lengthReads s) n) a hwf
  rwa [answersFrom_length] at hread

end Sys2Proof.Machine

section

open Sys2Proof Sys2Proof.Machine

/-- Settles O55: the abort is told from the state before the CRC check and the read of the length. -/
theorem fskPacketAbandoned : Obligations.FskPacketAbandoned := by
  intro s
  refine ⟨congrArg Host.Outcome.next (fskRxAbort_eq s), fun hs hm => ?_⟩
  rw [exec_dio0Irq_rxFsk hs hm, exec_dio1Irq_rxFsk hs hm]
  refine ⟨dio0RxFsk_of_bad, fun hu hoff hover => ?_, fun hu hon hcrc hover => ?_, dio1RxFsk_of_over⟩
  · have hreads : crcReads s = 0 := by rw [crcReads, hoff]; rfl
    have hevents : crcEvents s = [] := by rw [crcEvents, hoff]; rfl
    have hrun := dio0RxFsk_of_over (by simp [hoff]) hu (by rw [hreads]; exact hover)
    rwa [hreads, hevents] at hrun
  · have hreads : crcReads s = 1 := if_pos hon
    have hevents : crcEvents s = [readOf s.cfg.regmap.irqFlags2 (answer s 0)] := if_pos hon
    have hrun := dio0RxFsk_of_over (fun _ => hcrc) hu (by rw [hreads]; exact hover)
    rwa [hreads, hevents] at hrun

/-- Settles O57: from a good state the bytes to move lie in the buffer, so neither burst stops. -/
theorem fskBursts : Obligations.FskBursts := by
  intro s hinv hm
  constructor
  · intro hs known size hfit k first n bytes
    have hmoved := moved_le_packetSize hinv.moved_le_size (answer s 0)
    have hk : 0 + lengthReads s = k := Nat.zero_add _
    refine ⟨drainFsk n (s.sized 0 []), ?_, ?_, fun a => ?_⟩
    · rw [exec_dio1Irq_rxFsk hs hm, dio1RxFsk_of_fits hmoved hfit]
      rfl
    · rw [drainFsk_sized, hk]
      rfl
    · rw [read_drainFsk_sized hinv.buf_wf, hk]
  · intro hs first n
    rw [exec_dio1Irq_txFsk hs hm, dio1TxFsk_eq hinv.moved_le_size hinv.size_le_buffer, refillFsk_eq, memRead,
      readList_eq_map, half_add_ofNat]
    rfl

/-- Settles O54: the rest of the packet lies in the buffer, so the drain does not stop; the delivery copies the whole of
it. -/
theorem fskPacketDelivered : Obligations.FskPacketDelivered := by
  intro s hinv hs hm hcrc c known size hfit k first bytes q rssi payload
  have hmoved : first ≤ size := moved_le_packetSize hinv.moved_le_size (answer s c)
  have hend : first + (size - first) = size := Nat.add_sub_cancel' hmoved
  have hsize : (BitVec.ofNat 16 size).toNat = size := toNat_packetSize ..
  have hread := read_drainFsk_sized hinv.buf_wf c (size - first) (crcEvents s)
  rw [drainFsk_sized] at hread
  have hpayload :
      Memory.readList (Memory.writeList s.dataBuf first bytes) 0 (BitVec.ofNat 16 size).toNat = payload := by
    rw [hsize, readList_eq_map]
    refine List.map_congr_left fun a ha => ?_
    have hlt := List.mem_range.1 ha
    refine (congrArg _ (Nat.zero_add a)).trans ((hread a).trans ?_)
    by_cases hfirst : a < first
    · rw [if_pos hfirst, if_neg fun h => Nat.not_le.2 hfirst h.1]
    · rw [if_neg hfirst, if_pos ⟨Nat.not_lt.1 hfirst, hend.symm ▸ hlt⟩]
      rfl
  have hrun := (exec_dio0Irq_rxFsk hs hm).trans (dio0RxFsk_of_fits hcrc hmoved hfit)
  rw [drainFsk_sized, fskDeliver_since s _ _ hpayload] at hrun
  refine ⟨_, hrun, rfl, fun a => (hread a).trans ?_⟩
  rw [hend]
  rfl

end

namespace Sys2Proof.Machine

/-! ### The LoRa packet (R184, R186 to R189) -/

section LoraPacketHandler

variable (s : State)

/-- The flag cleared and the flags read, before anything depends on them (R186). -/
def loraStartEvents : List Event :=
  [writeOf s.cfg.regmap.lrIrqFlags s.cfg.regmap.lrRxDone, readOf s.cfg.regmap.lrIrqFlags (answer s 0)]

/-- The SNR of the packet (R187). -/
def packetSnr : Int := snrOf s.cfg.snrWidth (answer s 1)

/-- The RSSI of the packet (R188). -/
def packetRssi : Int := loraRssi s.cfg.rssiOffset (answer s 2) (packetSnr s)

/-- The packet record with both in it (R186). -/
def measuredPacket : LoraPacket :=
  { s.loraPh with snrValue := BitVec.ofInt 8 (packetSnr s), rssiValue := rssiField (packetRssi s) }

/-- The two readings and the length (R186). -/
def loraReadingEvents : List Event :=
  [readOf s.cfg.regmap.lrPktSnrValue (answer s 1), readOf s.cfg.regmap.lrPktRssiValue (answer s 2),
    readOf s.cfg.regmap.lrRxNbBytes (answer s 3)]

/-- `s` with a LoRa packet without a CRC error measured and its length read (R186). -/
def State.measured : State :=
  { s.after 4 (loraStartEvents s ++ loraReadingEvents s) with loraPh := measuredPacket s }

theorem loraFlags_eq : regRead s.cfg.regmap.lrIrqFlags (regWrite s.cfg.regmap.lrIrqFlags s.cfg.regmap.lrRxDone s) =
    (answer s 0, s.after 1 (loraStartEvents s)) := by
  rw [regWrite_eq, regRead_eq, after_after, answer_after]
  rfl

theorem loraLength_eq : regRead s.cfg.regmap.lrRxNbBytes (captureLoraReadings (s.after 1 (loraStartEvents s))) =
    (answer s 3, s.measured) := by
  have hmeasured : captureLoraReadings (s.after 1 (loraStartEvents s)) =
      { s.after 3 (loraStartEvents s ++ [readOf s.cfg.regmap.lrPktSnrValue (answer s 1),
          readOf s.cfg.regmap.lrPktRssiValue (answer s 2)]) with loraPh := measuredPacket s } := by
    rw [captureLoraReadings_eq, after_after, answer_after, answer_after]
    rfl
  generalize captureLoraReadings _ = u at hmeasured
  have hanswer : answer u 0 = answer s 3 := by
    rw [hmeasured]
    exact congrFun (answer_of_drop (s := s) (n := 3) rfl rfl) 0
  rw [regRead_eq, hanswer, hmeasured, State.measured, loraReadingEvents]
  refine congrArg (Prod.mk _) (State.ext_trace rfl ?_ rfl ?_)
  · exact List.drop_drop ..
  · exact List.append_assoc ..

/-- `Dio0RxLora` in its three cases (R186). -/
theorem dio0RxLora_eq : dio0RxLora s =
    if flagSet (answer s 0) s.cfg.regmap.lrPayloadCrcError then emit .rxError (loraRxEnd
      (s.after 1 (loraStartEvents s ++ [writeOf s.cfg.regmap.lrIrqFlags s.cfg.regmap.lrPayloadCrcError])))
    else if (answer s 3).toNat > s.cfg.maxDataBufferSize then emit .rxError (loraRxEnd s.measured)
    else loraDeliver (answer s 3) s.measured := by
  simp only [dio0RxLora, loraFlags_eq, loraLength_eq]
  rw [regWrite_eq, after_after]

/-- The pointer, the drain (R189). -/
def loraDrainEvents (s : State) (k n : Nat) : List Event :=
  [readOf s.cfg.regmap.lrFifoRxCurrentAddr (answer s k), writeOf s.cfg.regmap.lrFifoAddrPtr (answer s k)]
    ++ fifoReadOf (answersFrom s (k + 1) n)

/-- The drain told by the answers an earlier state `s` has still to consume, `n` of which are gone by now (R189). -/
theorem loraDrain_since {u : State} {n : Nat} (hc : u.cfg = s.cfg) (ha : u.answers = s.answers.drop n)
    (hr : u.reads = s.reads + n) (len : Byte) : loraDrain len u =
      { u.after (1 + len.toNat) (loraDrainEvents s n len.toNat) with
        dataBuf := (memWrite 0 (answersFrom s (n + 1) len.toNat) u).dataBuf } := by
  have hbytes : answersFrom u 1 len.toNat = answersFrom s (n + 1) len.toNat := by
    simp only [answersFrom, answer_of_drop ha hr, Nat.add_assoc]
  rw [loraDrain_eq, hbytes, hc, answer_of_drop ha hr]
  rfl

/-- `s` with a LoRa packet of `len` bytes measured and drained into the buffer from 0 (R186, R189). -/
def State.drained (len : Byte) : State :=
  { s.after (5 + len.toNat) (loraStartEvents s ++ loraReadingEvents s ++ loraDrainEvents s 4 len.toNat) with
    dataBuf := (memWrite 0 (answersFrom s 5 len.toNat) s).dataBuf, loraPh := { measuredPacket s with size := len } }

theorem loraDrain_measured (len : Byte) :
    loraDrain len { s.measured with loraPh := { s.measured.loraPh with size := len } } = s.drained len := by
  rw [loraDrain_since s (u := { s.measured with loraPh := _ }) (n := 4) rfl rfl rfl]
  refine State.ext_trace rfl ?_ ?_ (List.append_assoc ..)
  · show (s.answers.drop 4).drop (1 + len.toNat) = s.answers.drop (5 + len.toNat)
    rw [List.drop_drop, ← Nat.add_assoc]
  · show s.reads + 4 + (1 + len.toNat) = s.reads + (5 + len.toNat)
    omega

theorem memRead_drained (hwf : Memory.wf s.dataBuf = true) (len : Byte) :
    memRead 0 len.toNat (s.drained len) = answersFrom s 5 len.toNat :=
  (memRead_memWrite _ hwf (answersFrom_length ..).ge).trans (List.take_of_length_le (answersFrom_length ..).le)

/-- The delivery of a LoRa packet (R186): the callback carries the drained bytes. -/
theorem loraDeliver_measured (hwf : Memory.wf s.dataBuf = true) (len : Byte) : loraDeliver len s.measured =
    emit (.rxDone (BitVec.ofNat 16 len.toNat) (rssiField (packetRssi s)) (BitVec.ofInt 8 (packetSnr s))
      (answersFrom s 5 len.toNat)) (loraRxEnd (s.drained len)) := by
  have hph : (loraRxEnd (s.drained len)).loraPh = (s.drained len).loraPh := by
    rw [(loraRxEnd_control (s.drained len)).frame.eq]
  have hbuf : memRead 0 len.toNat (loraRxEnd (s.drained len)) = memRead 0 len.toNat (s.drained len) := by
    rw [memRead, (loraRxEnd_control (s.drained len)).frame.eq]
    rfl
  rw [loraDeliver, loraDrain_measured, hph, hbuf, memRead_drained s hwf, BitVec.ofNat_toNat]
  rfl

theorem dio0RxLora_of_crcError (hcrc : flagSet (answer s 0) s.cfg.regmap.lrPayloadCrcError = true) : dio0RxLora s =
    (s.after 1 (loraStartEvents s ++ writeOf s.cfg.regmap.lrIrqFlags s.cfg.regmap.lrPayloadCrcError :: loraEndEvents s
      ++ callbackEvents s.cbSet .rxError)).received s.lora.rxContinuous := by
  rw [dio0RxLora_eq, if_pos hcrc, emit_loraRxEnd, after_after]
  rfl

theorem dio0RxLora_of_over (hcrc : flagSet (answer s 0) s.cfg.regmap.lrPayloadCrcError = false)
    (hover : (answer s 3).toNat > s.cfg.maxDataBufferSize) : dio0RxLora s =
    { (s.after 4 (loraStartEvents s ++ loraReadingEvents s ++ loraEndEvents s
        ++ callbackEvents s.cbSet .rxError)).received s.lora.rxContinuous with loraPh := measuredPacket s } := by
  rw [dio0RxLora_eq, if_neg (ne_true_of_eq_false hcrc), if_pos hover, emit_loraRxEnd, received_eq, received_eq]
  exact State.ext_trace rfl rfl rfl (List.append_assoc ..)

theorem dio0RxLora_of_fits (hwf : Memory.wf s.dataBuf = true)
    (hcrc : flagSet (answer s 0) s.cfg.regmap.lrPayloadCrcError = false)
    (hfit : (answer s 3).toNat ≤ s.cfg.maxDataBufferSize) : let len := (answer s 3).toNat
    dio0RxLora s =
    { (s.after (5 + len) (loraStartEvents s ++ loraReadingEvents s ++ loraDrainEvents s 4 len ++ loraEndEvents s
        ++ callbackEvents s.cbSet (.rxDone (BitVec.ofNat 16 len) (rssiField (packetRssi s))
            (BitVec.ofInt 8 (packetSnr s)) (answersFrom s 5 len)))).received s.lora.rxContinuous with
      dataBuf := (memWrite 0 (answersFrom s 5 len) s).dataBuf,
      loraPh := { measuredPacket s with size := answer s 3 } } := by
  intro len
  rw [dio0RxLora_eq, if_neg (ne_true_of_eq_false hcrc), if_neg (Nat.not_lt.2 hfit), loraDeliver_measured s hwf,
    emit_loraRxEnd, received_eq, received_eq]
  refine State.ext_trace rfl rfl rfl ?_
  simp only [State.after_hist, State.drained, List.append_assoc]
  rfl

end LoraPacketHandler

/-- The RSSI of a LoRa packet fits its field where `RSSI_OFFSET` is within the bound of R130 (R188). -/
theorem rssiField_packetRssi (s : State) (hlo : -32000 < s.cfg.rssiOffset) (hhi : s.cfg.rssiOffset < 32000) :
    (rssiField (packetRssi s)).toInt = packetRssi s := by
  have hraw := (answer s 2).isLt
  obtain ⟨hsnr, -⟩ := snrOf_range s.cfg.snrWidth (answer s 1)
  have hrange : -32768 ≤ packetRssi s ∧ packetRssi s ≤ 32767 := by
    rw [packetRssi, packetSnr, loraRssi]
    split <;> omega
  rw [rssiField, if_pos hrange, BitVec.toInt_ofInt_eq_self (by omega) (by omega) (by omega)]

end Sys2Proof.Machine

section

open Sys2Proof Sys2Proof.Machine

/-- Settles O56: the three cases of the handler, which end in the same step. -/
theorem loraPacket : Obligations.LoraPacket := by
  intro s hs hm hwf r stop start snr rssi ph readings len bytes
  rw [exec_dio0Irq_rxLora hs hm]
  refine ⟨fun hcrc => ?_, fun hcrc hover => ?_, fun hcrc hfit => ⟨_, rfl, ?_, fun a => ?_⟩,
    rssiField_packetRssi s⟩
  · exact congrArg Host.Outcome.next (dio0RxLora_of_crcError s hcrc)
  · exact congrArg Host.Outcome.next (dio0RxLora_of_over s hcrc hover)
  · rw [dio0RxLora_of_fits s hwf hcrc hfit]
    rfl
  · rw [dio0RxLora_of_fits s hwf hcrc hfit]
    exact read_memWrite_zero hwf (answersFrom_length ..) a

end

namespace Sys2Proof.Machine

/-! ### The one callback of a cell (R84, R200, R258) -/

/-- The block shows events from `s` to `t` and makes no callback. -/
def Quiet (s t : State) : Prop := ∃ ev, t.hist = s.hist ++ ev ∧ ev.filter Event.isCallback = []

section Quiet

variable {s t u : State}

theorem Quiet.refl (s : State) : Quiet s s := ⟨[], (List.append_nil _).symm, rfl⟩

theorem Quiet.trans (h : Quiet s t) (h' : Quiet t u) : Quiet s u := by
  obtain ⟨ev, hh, hq⟩ := h
  obtain ⟨ev', hh', hq'⟩ := h'
  exact ⟨ev ++ ev', by rw [hh', hh, List.append_assoc], by rw [List.filter_append, hq, hq', List.append_nil]⟩

theorem quiet_of_hist {ev : List Event} (hh : t.hist = s.hist ++ ev) (hq : ev.filter Event.isCallback = []) :
    Quiet s t := ⟨ev, hh, hq⟩

end Quiet

/-! What the bus, the pins and the timer show is no callback. -/

@[simp] theorem filter_readOf (a : Addr) (v : Byte) (l : List Event) :
    (readOf a v :: l).filter Event.isCallback = l.filter Event.isCallback := rfl

@[simp] theorem filter_writeOf (a : Addr) (v : Byte) (l : List Event) :
    (writeOf a v :: l).filter Event.isCallback = l.filter Event.isCallback := rfl

@[simp] theorem filter_timerCancel (l : List Event) :
    (Event.timerCancel :: l).filter Event.isCallback = l.filter Event.isCallback := rfl

@[simp] theorem filter_setOf (a : Addr) (m o v : Byte) : (setOf a m o v).filter Event.isCallback = [] := rfl

@[simp] theorem filter_seqEvents (f : Nat → Byte) (k : Nat) (l : List SeqStep) :
    (seqEvents f k l).filter Event.isCallback = [] := by
  induction l generalizing k with
  | nil => rfl
  | cons x l ih =>
    cases x with
    | w a v => exact ih k
    | m a x y => exact ih (k + 1)

@[simp] theorem filter_pinEvents (w : Wiring) (l : List (Pin × Bool)) :
    (pinEvents w l).filter Event.isCallback = [] := by
  rw [pinEvents, List.filter_eq_nil_iff]
  intro e he
  obtain ⟨x, -, rfl⟩ := List.mem_map.1 he
  exact Bool.false_ne_true

@[simp] theorem filter_modeEvents_sleep (c : Config) (f : Nat → Byte) (k : Nat) :
    (modeEvents c f k .sleep).filter Event.isCallback = [] := by
  simp [modeEvents]

@[simp] theorem filter_modemEvents (c : Config) (f : Nat → Byte) (k : Nat) (m : ModemKind) :
    (modemEvents c f k m).filter Event.isCallback = [] := by
  rw [modemEvents]
  split <;> simp

@[simp] theorem filter_fskEndEvents (s : State) (k : Nat) : (fskEndEvents s k).filter Event.isCallback = [] := by
  rw [fskEndEvents]
  split <;> rfl

@[simp] theorem filter_loraEndEvents (s : State) : (loraEndEvents s).filter Event.isCallback = [] := by
  rw [loraEndEvents]
  split <;> rfl

@[simp] theorem filter_lengthEvents (s : State) (v : Byte) : (lengthEvents s v).filter Event.isCallback = [] := by
  rw [lengthEvents]
  split <;> rfl

@[simp] theorem filter_lengthShown (s : State) (v : Byte) : (lengthShown s v).filter Event.isCallback = [] := by
  rw [lengthShown]
  split <;> simp

@[simp] theorem filter_crcEvents (s : State) : (crcEvents s).filter Event.isCallback = [] := by
  rw [crcEvents]
  split <;> rfl

@[simp] theorem filter_fifoReadOf (l : List Byte) : (fifoReadOf l).filter Event.isCallback = [] := by
  rw [fifoReadOf]
  split <;> rfl

@[simp] theorem filter_fifoWriteOf (l : List Byte) : (fifoWriteOf l).filter Event.isCallback = [] := by
  rw [fifoWriteOf]
  split <;> rfl

/-! The recovery's mode control (R199) makes no callback. -/

theorem withModem_quiet (s : State) (k : ModemKind) : Quiet s (s.withModem k) := by
  rw [withModem_eq]
  exact quiet_of_hist rfl (filter_modemEvents ..)

theorem withDefaults_quiet (s : State) : Quiet s s.withDefaults := by
  rw [State.withDefaults]
  generalize s.cfg.chipSeq.initRegs = l
  induction l generalizing s with
  | nil => exact .refl s
  | cons e l ih => exact ((withModem_quiet s e.kind).trans (quiet_of_hist rfl rfl)).trans (ih _)

theorem asleep_quiet (s : State) : Quiet s s.asleep :=
  quiet_of_hist (ev := .timerCancel :: modeEvents s.cfg (answer s) 0 .sleep) rfl (filter_modeEvents_sleep ..)

theorem restored_quiet (s : State) : Quiet s s.restored :=
  ((asleep_quiet s).trans (withDefaults_quiet s.asleep)).trans (withModem_quiet _ _)

/-! ### The cells (R200) -/

/-- A handler answers a next state in `st`, having made the callback of this number and no other. -/
def Calls (i : Instr) (s : State) (st : RadioState) (number : Nat) : Prop :=
  ∃ t ev, exec i s = .next t ∧ t.state = st ∧ t.hist = s.hist ++ ev ∧
    ∃ l, ev.filter Event.isCallback = [.callback (BitVec.ofNat 8 number :: l)]

/-- A handler answers a next state in `st` and makes no callback. -/
def CallsNothing (i : Instr) (s : State) (st : RadioState) : Prop :=
  ∃ t ev, exec i s = .next t ∧ t.state = st ∧ t.hist = s.hist ++ ev ∧ ∀ m, Event.callback m ∉ ev

section Cells

variable {s t u : State} {i : Instr} {st : RadioState}

/-- With every callback supplied, each one leaves its message (R258). -/
theorem callbackEvents_of_all (hcb : s.cbSet = 0x7F) (c : Callback) :
    callbackEvents s.cbSet c = [.callback (callbackMessage c)] := by
  have hset : ∀ n < 7, (0x7F : EventVec).getLsbD n = true := by decide
  have hnumber : callbackNumber c < 7 := by cases c <;> simp [callbackNumber]
  rw [callbackEvents, hcb]
  exact if_pos (hset _ hnumber)

/-- A handler that ends in a callback after quiet work. -/
theorem calls_of_quiet (hcb : s.cbSet = 0x7F) {c : Callback} (hrun : exec i s = .next t) (hst : t.state = st)
    (hquiet : Quiet s u) (hhist : t.hist = u.hist ++ callbackEvents s.cbSet c) : Calls i s st (callbackNumber c) := by
  obtain ⟨ev, hev, hq⟩ := hquiet
  refine ⟨t, ev ++ callbackEvents s.cbSet c, hrun, hst, by rw [hhist, hev, List.append_assoc], ?_⟩
  rw [List.filter_append, hq, callbackEvents_of_all hcb]
  exact ⟨_, rfl⟩

theorem calls_of_hist (hcb : s.cbSet = 0x7F) {c : Callback} {ev : List Event} (hrun : exec i s = .next t)
    (hst : t.state = st) (hhist : t.hist = s.hist ++ (ev ++ callbackEvents s.cbSet c))
    (hq : ev.filter Event.isCallback = []) : Calls i s st (callbackNumber c) :=
  calls_of_quiet (u := s.after 0 ev) hcb hrun hst (quiet_of_hist rfl hq)
    (hhist.trans (List.append_assoc s.hist ev _).symm)

theorem callsNothing_of_hist {ev : List Event} (hrun : exec i s = .next t) (hst : t.state = st)
    (hhist : t.hist = s.hist ++ ev) (hq : ev.filter Event.isCallback = []) : CallsNothing i s st :=
  ⟨t, ev, hrun, hst, hhist, fun _ hm => List.not_mem_nil (hq ▸ List.mem_filter.2 ⟨hm, rfl⟩)⟩

/-! DIO0 (R191) -/

/-- A packet that does not fit is one whose length is still to be learnt: a known one has been checked (R21, R184). -/
theorem unknown_of_not_fits {v : Byte} (hsize : s.fskPh.size.toNat ≤ s.cfg.maxDataBufferSize)
    (hover : ¬ packetSize s v ≤ s.cfg.maxDataBufferSize) :
    lengthUnknown s = true ∧ v.toNat > s.cfg.maxDataBufferSize := by
  rw [packetSize] at hover
  cases hu : lengthUnknown s with
  | true =>
    rw [hu] at hover
    exact ⟨rfl, Nat.not_le.1 hover⟩
  | false =>
    rw [hu] at hover
    exact absurd hsize hover

@[simp] theorem received_state (s : State) (c : Bool) : (s.received c).state = if c then s.state else .idle := by
  rw [received_eq]

@[simp] theorem received_hist (s : State) (c : Bool) : (s.received c).hist = s.hist := by rw [received_eq]

/-- An abandoned packet (R183): `rx_error`, whatever was read before. -/
theorem calls_of_aborted (hcb : s.cbSet = 0x7F) {k : Nat} {before : List Event}
    (hrun : exec i s = .next (s.aborted k before)) (hq : before.filter Event.isCallback = []) :
    Calls i s (if s.fsk.rxContinuous then s.state else .idle) 4 := by
  refine calls_of_hist (c := .rxError) hcb hrun (received_state _ _)
    (ev := before ++ (seqEvents (answer s) k s.cfg.chipSeq.fskRxAbortClear
      ++ fskEndEvents s (k + seqReads s.cfg.chipSeq.fskRxAbortClear))) ?_ (by simp [hq])
  rw [List.append_assoc]
  exact received_hist _ _

theorem dio0_rxFsk_calls (hinv : Inv s) (hcb : s.cbSet = 0x7F) (hs : s.state = .rxRunning) (hm : s.modem = .fsk) :
    Calls .dio0Irq s (if s.fsk.rxContinuous then s.state else .idle) 4 ∨
      Calls .dio0Irq s (if s.fsk.rxContinuous then s.state else .idle) 2 := by
  have hexec := exec_dio0Irq_rxFsk hs hm
  by_cases hbad : s.fsk.crcOn = true ∧ flagSet (answer s 0) s.cfg.regmap.irq2CrcOk = false
  · exact .inl (calls_of_aborted hcb (hexec.trans (dio0RxFsk_of_bad hbad.1 hbad.2)) rfl)
  have hgood : s.fsk.crcOn = true → flagSet (answer s 0) s.cfg.regmap.irq2CrcOk = true := fun hon =>
    Bool.eq_true_of_not_eq_false fun hcrc => hbad ⟨hon, hcrc⟩
  by_cases hfit : packetSize s (answer s (crcReads s)) ≤ s.cfg.maxDataBufferSize
  · have hrun := hexec.trans (dio0RxFsk_of_fits hgood (moved_le_packetSize hinv.moved_le_size _) hfit)
    rw [drainFsk_sized, fskDeliver_since s _ _ rfl] at hrun
    exact .inr (calls_of_hist (c := .rxDone _ _ _ _) hcb hrun (received_state _ _) (received_hist _ _)
      (by simp [readingEvents]))
  · obtain ⟨hu, hover⟩ := unknown_of_not_fits hinv.size_le_buffer hfit
    exact .inl (calls_of_aborted hcb (hexec.trans (dio0RxFsk_of_over hgood hu hover)) (by simp))

theorem dio0_rxLora_calls (hinv : Inv s) (hcb : s.cbSet = 0x7F) (hs : s.state = .rxRunning) (hm : s.modem = .lora) :
    Calls .dio0Irq s (if s.lora.rxContinuous then s.state else .idle) 4 ∨
      Calls .dio0Irq s (if s.lora.rxContinuous then s.state else .idle) 2 := by
  have hexec := exec_dio0Irq_rxLora hs hm
  cases hcrc : flagSet (answer s 0) s.cfg.regmap.lrPayloadCrcError with
  | true =>
    rw [dio0RxLora_of_crcError s hcrc] at hexec
    exact .inl (calls_of_hist (c := .rxError) hcb hexec (received_state _ _) (received_hist _ _)
      (by simp [loraStartEvents]))
  | false =>
    by_cases hfit : (answer s 3).toNat ≤ s.cfg.maxDataBufferSize
    · rw [dio0RxLora_of_fits s hinv.buf_wf hcrc hfit] at hexec
      exact .inr (calls_of_hist (c := .rxDone _ _ _ _) hcb hexec (received_state _ _) (received_hist _ _)
        (by simp [loraStartEvents, loraReadingEvents, loraDrainEvents]))
    · rw [dio0RxLora_of_over s hcrc (Nat.not_le.1 hfit)] at hexec
      exact .inl (calls_of_hist (c := .rxError) hcb hexec (received_state _ _) (received_hist _ _)
        (by simp [loraStartEvents, loraReadingEvents]))

theorem dio0_tx_calls (hcb : s.cbSet = 0x7F) (hs : s.state = .txRunning) : Calls .dio0Irq s .idle 0 := by
  have hexec := exec_dio0Irq_tx hs
  rw [dio0Tx_eq] at hexec
  refine calls_of_hist (c := .txDone) hcb hexec rfl rfl ?_
  cases s.modem <;> rfl

/-! DIO1 (R193, R194) -/

theorem dio1_rxFsk_calls (hinv : Inv s) (hcb : s.cbSet = 0x7F) (hs : s.state = .rxRunning) (hm : s.modem = .fsk) :
    CallsNothing .dio1Irq s .rxRunning ∨ Calls .dio1Irq s (if s.fsk.rxContinuous then s.state else .idle) 4 := by
  have hexec := exec_dio1Irq_rxFsk hs hm
  by_cases hfit : packetSize s (answer s 0) ≤ s.cfg.maxDataBufferSize
  · rw [dio1RxFsk_of_fits (moved_le_packetSize hinv.moved_le_size _) hfit, drainFsk_sized] at hexec
    exact .inl (callsNothing_of_hist hexec hs rfl (by simp))
  · obtain ⟨hu, hover⟩ := unknown_of_not_fits hinv.size_le_buffer hfit
    exact .inr (calls_of_aborted hcb (hexec.trans (dio1RxFsk_of_over hu hover)) (by simp))

theorem dio1_txFsk_calls (hinv : Inv s) (hs : s.state = .txRunning) (hm : s.modem = .fsk) :
    CallsNothing .dio1Irq s .txRunning := by
  have hexec := exec_dio1Irq_txFsk hs hm
  rw [dio1TxFsk_eq hinv.moved_le_size hinv.size_le_buffer, refillFsk_eq] at hexec
  exact callsNothing_of_hist hexec hs rfl (by simp)

theorem dio1_rxLora_calls (hcb : s.cbSet = 0x7F) (hs : s.state = .rxRunning) (hm : s.modem = .lora) :
    Calls .dio1Irq s .idle 3 := by
  have hexec := exec_dio1Irq_rxLora hs hm
  rw [dio1RxLora_eq] at hexec
  exact calls_of_hist (c := .rxTimeout) hcb hexec rfl rfl rfl

/-! DIO2, DIO3 and the timeout (R195 to R197, R199) -/

theorem dio2_rxFsk_calls (hcb : s.cbSet = 0x7F) (hs : s.state = .rxRunning) (hm : s.modem = .fsk) :
    Calls .dio2Irq s (if s.fsk.rxContinuous then s.state else .idle) 3 := by
  have hexec := exec_dio2Irq_rxFsk hs hm
  rw [dio2RxFsk_eq] at hexec
  exact calls_of_hist (c := .rxTimeout) hcb hexec (received_state _ _) (received_hist _ _) (by simp)

theorem dio2_lora_calls (hcb : s.cbSet = 0x7F) (hs : s.state = st) (hst : st = .rxRunning ∨ st = .txRunning)
    (hm : s.modem = .lora) : if s.lora.freqHopOn then Calls .dio2Irq s st 5 else exec .dio2Irq s = .next s := by
  subst hs
  have hexec := exec_dio2Irq_lora hst hm
  split
  next hhop =>
    rw [dio2Lora_hop s hhop] at hexec
    exact calls_of_hist (c := .fhssChangeChannel _) hcb hexec rfl rfl rfl
  next hhop => rwa [dio2Lora_noHop s (Bool.eq_false_of_not_eq_true hhop)] at hexec

theorem dio3_cad_calls (hcb : s.cbSet = 0x7F) (hs : s.state = .cad) (hm : s.modem = .lora) :
    Calls .dio3Irq s .idle 6 := by
  have hexec := exec_dio3Irq_lora hm
  rw [dio3Lora_of_cad s hs] at hexec
  exact calls_of_hist (c := .cadDone _) (ev := cadEvents s ++ [.timerCancel]) hcb hexec rfl rfl rfl

theorem dio3_other_calls (hcb : s.cbSet = 0x7F) (hs : s.state = st) (hst : st ≠ .cad) (hm : s.modem = .lora) :
    Calls .dio3Irq s st 6 := by
  subst hs
  have hexec := exec_dio3Irq_lora hm
  rw [dio3Lora_of_not_cad s hst] at hexec
  exact calls_of_hist (c := .cadDone _) hcb hexec rfl rfl rfl

theorem timeout_calls (hcb : s.cbSet = 0x7F) (hs : s.state = .txRunning) : Calls .timeoutIrq s .idle 1 := by
  have hexec := exec_timeoutIrq_tx hs
  rw [timeoutRecovery_eq] at hexec
  generalize hlora : s.restored.withModem .lora = m at hexec
  have hquiet : Quiet s m := hlora ▸ (restored_quiet s).trans (withModem_quiet _ .lora)
  have hwrite : Quiet m (m.after 0 [syncwordWrite s]) := quiet_of_hist rfl rfl
  exact calls_of_quiet (c := .txTimeout) hcb hexec rfl (hquiet.trans hwrite)
    (List.append_assoc m.hist [syncwordWrite s] _).symm

end Cells

end Sys2Proof.Machine

section

open Sys2Proof Sys2Proof.Machine

/-- Settles O53: the table line by line, a cell at a time. -/
theorem handlerTable : Obligations.HandlerTable := by
  intro s hinv hcb after outcome nothing
  refine ⟨?_, ?_, ?_, ?_, ?_, exec_dio5Irq s, ?_⟩
  · cases hs : s.state with
    | rxRunning =>
      cases hm : s.modem with
      | fsk => exact dio0_rxFsk_calls hinv hcb hs hm
      | lora => exact dio0_rxLora_calls hinv hcb hs hm
    | txRunning => exact dio0_tx_calls hcb hs
    | idle => exact exec_dio0Irq_unused (.inl hs)
    | cad => exact exec_dio0Irq_unused (.inr hs)
  · cases hs : s.state with
    | rxRunning =>
      cases hm : s.modem with
      | fsk => exact dio1_rxFsk_calls hinv hcb hs hm
      | lora => exact dio1_rxLora_calls hcb hs hm
    | txRunning =>
      cases hm : s.modem with
      | fsk => exact dio1_txFsk_calls hinv hs hm
      | lora => exact exec_dio1Irq_txLora hs hm
    | idle => exact exec_dio1Irq_unused (.inl hs)
    | cad => exact exec_dio1Irq_unused (.inr hs)
  · cases hs : s.state with
    | rxRunning =>
      cases hm : s.modem with
      | fsk => exact dio2_rxFsk_calls hcb hs hm
      | lora => exact dio2_lora_calls hcb hs (.inl rfl) hm
    | txRunning =>
      cases hm : s.modem with
      | fsk => exact exec_dio2Irq_txFsk hs hm
      | lora => exact dio2_lora_calls hcb hs (.inr rfl) hm
    | idle => exact exec_dio2Irq_unused (.inl hs)
    | cad => exact exec_dio2Irq_unused (.inr hs)
  · cases hm : s.modem with
    | fsk => cases s.state <;> exact exec_dio3Irq_fsk hm
    | lora =>
      cases hs : s.state with
      | cad => exact dio3_cad_calls hcb hs hm
      | idle | rxRunning | txRunning => exact dio3_other_calls hcb hs nofun hm
  · split
    next hm => exact exec_dio4Irq_fsk hm
    next hm => exact exec_dio4Irq_lora hm
  · cases hs : s.state with
    | txRunning =>
      refine ⟨timeout_calls hcb hs, fun t ht => ?_⟩
      obtain rfl := Host.Outcome.next.inj ((exec_timeoutIrq_tx hs).symm.trans ht)
      exact timeoutRecovery_modem s
    | idle | rxRunning | cad => exact exec_timeoutIrq_unused (by simp [hs])

end

/-! The facade's closed forms (46_facade.md): status, lock, initialisation and configuration, each over what `SET_MODEM`
leaves. -/

namespace Sys2Proof.Machine

/-! ### Status and lock (R213, R224, R230, R231) -/

theorem exec_getStatus (s : State) : exec .getStatus s = .next (s.after 0 [okResponse [s.state.code]]) := rfl

theorem exec_checkRfFrequency (f : Word) (s : State) :
    exec (.checkRfFrequency f) s = .next (s.after 0 [okResponse [0x01]]) := rfl

theorem exec_lock_of_ne {s : State} (h : s.lock ≠ 255) :
    exec .lock s = .next { s.after 0 [okResponse []] with lock := s.lock + 1 } := if_neg h

theorem exec_lock_of_eq {s : State} (h : s.lock = 255) :
    exec .lock s = .next (s.after 0 [.response [0x02]]) := if_pos h

theorem exec_unlock_of_ne {s : State} (h : s.lock ≠ 0) :
    exec .unlock s = .next { s.after 0 [okResponse []] with lock := s.lock - 1 } := if_neg h

theorem exec_unlock_of_eq {s : State} (h : s.lock = 0) :
    exec .unlock s = .next (s.after 0 [.response [0x02]]) := if_pos h

/-! ### Initialisation (R210) -/

/-- The chip reset and the sleep write that open `INIT_RADIO`. -/
theorem setOperationMode_sleep_radioReset (s : State) : setOperationMode .sleep (radioReset s) =
    { s.after 1 ([.rstLow, .wait s.cfg.resetLowMs, .rstRelease, .wait s.cfg.resetWaitMs]
        ++ modeEvents s.cfg (answer s) 0 .sleep) with
      rst := .released, gpio := pinsDriven s.cfg.wiring (lowPowerPins s.cfg.wiring) s.gpio } := by
  rw [setOperationMode_since (s := s) (u := radioReset s) (n := 0) rfl rfl rfl, modeReads_sleep, radioReset_eq]
  refine State.ext_trace rfl rfl rfl ?_
  simp only [State.after_hist, List.append_assoc]

/-- `GoIdle` and the response that end `INIT_RADIO`. -/
theorem respond_goIdle (s : State) : respond [] (goIdle s) =
    { s.after 0 [.timerCancel, okResponse []] with state := .idle, timer := .disarmed } := by
  rw [goIdle_eq, respond_eq, put_after, after_after]
  rfl

/-! ### Configuration (R212 to R221) -/

theorem exec_setChannel (f : Word) (s : State) :
    exec (.setChannel f) s = .next { s.after (seqReads (channelWrites s.cfg f))
      (seqEvents (answer s) 0 (channelWrites s.cfg f) ++ [okResponse []]) with channel := f } := by
  change Host.Outcome.next (respond [] (setChannelOp f s)) = _
  rw [setChannelOp_eq, ← Nat.add_zero (seqReads (channelWrites s.cfg f)), ← after_after]
  rfl

/-- The three bytes of the carrier registers hold the low 24 bits of the formula's number (R102, R212). -/
theorem low24_of_bytes (n : Nat) :
    (BitVec.ofNat 8 (n / 65536)).toNat * 65536 + (BitVec.ofNat 8 (n / 256)).toNat * 256 + (BitVec.ofNat 8 n).toNat
      = n % 2 ^ 24 := by
  simp only [BitVec.toNat_ofNat]
  omega

theorem applySeq_after (seq : List SeqStep) (s : State) (n : Nat) (l : List Event) :
    applySeq seq (s.after n l) = s.after (n + seqReads seq) (l ++ seqEvents (answer s) n seq) := by
  rw [applySeq_eq, seqEvents_after, after_after, Nat.add_zero]

/-- `Ldro` of stored operands (R216). -/
theorem ldroOf_eq (b d : Word) : ldroOf b d = decide
    ((loraBwHz b.toNat = some 125000 ∧ (d = 11 ∨ d = 12)) ∨ (loraBwHz b.toNat = some 250000 ∧ d = 12)) := by
  have h11 : d.toNat = 11 ↔ d = 11 := BitVec.toNat_inj (y := 11)
  have h12 : d.toNat = 12 ↔ d = 12 := BitVec.toNat_inj (y := 12)
  rw [ldroOf, Bool.eq_iff_iff]
  cases loraBwHz b.toNat with
  | none => simp [ldro]
  | some hz => simp [ldro, h11, h12]

theorem rxConfigValid_iff (a : RxConfigArgs) (s : State) : rxConfigValid a s = true ↔
    a.modem = .lora ∨ ((bandwidthCode s.cfg.fskBwTable a.bandwidth.toNat).isSome ∧
      (bandwidthCode s.cfg.fskBwTable a.afcBandwidth.toNat).isSome) := by
  rw [rxConfigValid]
  cases a.modem <;> simp

theorem exec_setRxConfig_of_invalid {a : RxConfigArgs} {s : State} (h : ¬ rxConfigValid a s = true) :
    exec (.setRxConfig a) s = .next (s.after 0 [.response [0x01]]) := if_neg h

/-- `SET_RX_CONFIG` on valid operands, told by the state `u` the operands are stored in (R214). -/
theorem exec_setRxConfig_of_valid {a : RxConfigArgs} {s u : State} (h : rxConfigValid a s = true)
    (hu : storeRxConfig a (s.withModem a.modem) = u) :
    exec (.setRxConfig a) s = .next (u.after (seqReads (configWrites u.cfg.chipSeq.rxcfg a.modem u))
      (seqEvents (answer u) 0 (configWrites u.cfg.chipSeq.rxcfg a.modem u) ++ [okResponse []])) := by
  subst hu
  refine (if_pos h).trans ?_
  simp only [setModem_eq, applySeq_eq, respond_eq, after_after, Nat.add_zero]

theorem storeTxConfig_after (a : TxConfigArgs) (s : State) (n : Nat) (l : List Event) :
    storeTxConfig a (s.after n l) = (storeTxConfig a s).after n l := by
  rw [storeTxConfig, storeTxConfig]
  cases a.modem <;> rfl

@[simp] theorem storeTxConfig_cfg (a : TxConfigArgs) (s : State) : (storeTxConfig a s).cfg = s.cfg := by
  rw [storeTxConfig]
  cases a.modem <;> rfl

theorem answer_storeTxConfig (a : TxConfigArgs) (s : State) : answer (storeTxConfig a s) = answer s := by
  rw [storeTxConfig]
  cases a.modem <;> rfl

theorem txConfigWrites_after (m : ModemKind) (s : State) (n : Nat) (l : List Event) :
    txConfigWrites m (s.after n l) = txConfigWrites m s := rfl

/-- The operation of `SET_TX_CONFIG` (R217), told by the state `u` the operands are stored in. -/
theorem setTxConfigOp_eq {a : TxConfigArgs} {s u : State} (hu : storeTxConfig a (s.withModem a.modem) = u) :
    setTxConfigOp a s = u.after (2 + seqReads (txConfigWrites a.modem u))
      (powerEvents s.cfg (answer u) 0 a.power ++ seqEvents (answer u) 2 (txConfigWrites a.modem u)) := by
  subst hu
  simp only [setTxConfigOp, setModem_eq, setRfTxPower_eq, storeTxConfig_after, txConfigWrites_after, applySeq_after,
    answer_storeTxConfig, withModem_cfg]

end Sys2Proof.Machine

section

open Sys2Proof Sys2Proof.Machine

/-- Settles O28: both answer from the state alone, and the code is R80's. -/
theorem statusAndFrequency : Obligations.StatusAndFrequency := by
  intro s f
  refine ⟨?_, exec_checkRfFrequency f s⟩
  rw [exec_getStatus]
  cases s.state <;> rfl

/-- Settles O29: below 255 and above 0 the count does not wrap. -/
theorem lockCount : Obligations.LockCount := by
  intro s
  refine ⟨fun h => ?_, fun h => ?_, fun h => ?_, fun h => ?_⟩
  · exact ⟨s.lock + 1, by bv_omega, exec_lock_of_ne (by bv_omega)⟩
  · exact exec_lock_of_eq (by bv_omega)
  · exact ⟨s.lock - 1, by bv_omega, exec_unlock_of_ne (by bv_omega)⟩
  · exact exec_unlock_of_eq (by bv_omega)

/-- Settles O36: the default formula is three plain writes, whose bytes make its number. -/
theorem setChannel : Obligations.SetChannel := by
  intro s f
  refine ⟨exec_setChannel f s, fun hformula => ⟨_, _, _, low24_of_bytes (f.toNat * 256 / 15625), ?_⟩⟩
  have hwrites : channelWrites s.cfg f = channelFormula s.cfg.regmap f := by rw [channelWrites, hformula]
  rw [exec_setChannel, hwrites]
  rfl

/-- Settles O39: each is a `SET_MODEM`, then at most one write. -/
theorem payloadCapAndNetwork : Obligations.PayloadCapAndNetwork := by
  intro s max enabled
  refine ⟨?_, ?_, ?_⟩
  · change Host.Outcome.next (respond [] (if (setModem .fsk s).fsk.fixLen then _ else _)) = _
    rw [setModem_eq, withModem_fsk, withModem_cfg]
    cases s.fsk.fixLen with
    | true => rfl
    | false => exact congrArg Host.Outcome.next (after_after _ 0 0 _ _)
  · change Host.Outcome.next (respond [] (regWrite (setModem .lora s).cfg.regmap.lrPayloadMaxLength max _)) = _
    rw [setModem_eq, withModem_cfg, regWrite_eq, respond_eq, after_after]
    rfl
  · change Host.Outcome.next (respond [] (setPublicNetworkOp enabled s)) = _
    rw [setPublicNetworkOp_eq, respond_eq]
    refine congrArg Host.Outcome.next (State.ext_trace rfl rfl rfl ?_)
    simp only [State.after_hist, List.append_assoc]
    rfl

/-- Settles O31: everything after the reset pulse and the sleep write is mode control, which is the frame. -/
theorem initRadio : Obligations.InitRadio := by
  intro callbacks s a t
  have hexec : exec (.initRadio callbacks) s = .next t := by
    change Host.Outcome.next { respond [] (goIdle (setModem .fsk (loadDefaultRegisters
      (setOperationMode .sleep (radioReset { s with cbSet := callbacks.setWidth 7 }))))) with irqArmed := true } = _
    rw [setOperationMode_sleep_radioReset, loadDefaultRegisters_eq, setModem_eq, respond_goIdle]
    rfl
  have hmodem : t.modem = .fsk := withModem_modem a.withDefaults .fsk
  refine ⟨hexec, hmodem, ?_⟩
  obtain ⟨m, st, tm, g, n, ev, hcontrol⟩ := (ControlOf.withDefaults a).trans (ControlOf.withModem _ .fsk)
  obtain rfl : m = .fsk := by rw [← withModem_modem a.withDefaults .fsk, hcontrol, put_modem]
  simp only [t, hcontrol]
  rfl

/-- Settles O37: validated before anything, the operands stored whole, `RXCFG` run from the stored settings. -/
theorem setRxConfig : Obligations.SetRxConfig := by
  intro a s valid m u w
  have hu : storeRxConfig a m = u := by
    simp only [storeRxConfig, u]
    cases a.modem with
    | fsk => simp only [m, withModem_fsk, rxSingleTimeout]
    | lora => simp only [m, withModem_lora, ldroOf_eq]
  have hkeeps : u.cfg = s.cfg ∧ answer u = answer m := by
    simp only [u]
    cases a.modem <;> exact ⟨withModem_cfg s _, rfl⟩
  obtain ⟨hcfg, hanswer⟩ := hkeeps
  refine ⟨fun h => exec_setRxConfig_of_invalid (mt (rxConfigValid_iff a s).mp h), fun h => ?_⟩
  rw [exec_setRxConfig_of_valid ((rxConfigValid_iff a s).mpr h) hu, hcfg, hanswer]

/-- Settles O38: the power registers, then the operands as requested, then `TXCFG` without a step at a PA register. -/
theorem setTxConfig : Obligations.SetTxConfig := by
  intro a s m u w
  have hu : storeTxConfig a m = u := by
    simp only [storeTxConfig, u]
    cases a.modem with
    | fsk => simp only [m, withModem_fsk]
    | lora => simp only [m, withModem_lora, ldroOf_eq]
  have hcfg : u.cfg = s.cfg := by rw [← hu, storeTxConfig_cfg, withModem_cfg]
  have hanswer : answer u = answer m := by rw [← hu, answer_storeTxConfig]
  have hw : txConfigWrites a.modem u = w := by rw [txConfigWrites, hcfg]
  change Host.Outcome.next (respond [] (setTxConfigOp a s)) = _
  rw [setTxConfigOp_eq hu, hw, hanswer, respond_eq, after_after, Nat.add_zero]

end

/-! The busy-polling commands and the continuous wave (R226 to R228): the chip is set up from the state `m` that
`SET_MODEM` leaves, and each part is told by the answers `m` has still to consume. -/

namespace Sys2Proof.Machine

@[simp] theorem modeReads_receiver (c : Config) : modeReads c .receiver = 1 := by
  simp [modeReads, switchReads, readsBoost, modeClass]

/-- `SLEEP` told by the answers an earlier state `s` has still to consume, `n` of which are gone by now. -/
theorem sleepOp_since {s u : State} {n : Nat} (hc : u.cfg = s.cfg) (ha : u.answers = s.answers.drop n)
    (hr : u.reads = s.reads + n) : sleepOp u =
      { u.after 1 (.timerCancel :: modeEvents s.cfg (answer s) n .sleep) with
        state := .idle, timer := .disarmed,
        gpio := pinsDriven s.cfg.wiring (lowPowerPins s.cfg.wiring) u.gpio } := by
  rw [sleepOp_eq, hc, answer_of_drop ha hr, modeEvents_shift, Nat.add_zero]
  rfl

/-- How a polling command ends: after its polls from `u` the chip is put to sleep, then the response. -/
theorem respond_sleepOp_since {s u : State} {n : Nat} (hc : u.cfg = s.cfg) (ha : u.answers = s.answers.drop n)
    (hr : u.reads = s.reads + n) (j : Nat) (polls : List Event) (result : List Byte) :
    respond result (sleepOp (u.after j polls)) =
      { u.after (j + 1) (polls ++ .timerCancel :: modeEvents s.cfg (answer s) (n + j) .sleep
          ++ [okResponse result]) with
        state := .idle, timer := .disarmed,
        gpio := pinsDriven s.cfg.wiring (lowPowerPins s.cfg.wiring) u.gpio } := by
  have hanswers : (u.after j polls).answers = s.answers.drop (n + j) := by
    rw [State.after_answers, ha, List.drop_drop]
  have hreads : (u.after j polls).reads = s.reads + (n + j) := by
    rw [State.after_reads, hr, Nat.add_assoc]
  rw [sleepOp_since (u := u.after j polls) hc hanswers hreads, respond_eq]
  refine State.ext_trace rfl ?_ rfl ?_
  · simp only [State.after, List.drop_drop, Nat.add_zero]
  · simp only [State.after_hist, List.append_assoc]

/-! ### `RANDOM` (R226) -/

/-- Where a poll puts bit 0 of its reading. -/
theorem getLsbD_pollBit (b : Byte) {i k : Nat} (hi : i < 32) :
    ((b &&& 1).setWidth 32 <<< k : Word).getLsbD i = (decide (i = k) && b.getLsbD 0) := by
  rcases Nat.lt_trichotomy i k with hlt | rfl | hgt
  · simp [hlt, hlt.ne]
  · simp [hi]
  · simp [hgt.ne', show i - k ≠ 0 by omega]

/-- The polls fill the bits from `k` on, in the order of the readings. -/
theorem randomLoop_value {n k : Nat} (hn : k + n = 32) (v : Word) (s : State) {i : Nat} (hi : i < 32) :
    (randomLoop n v s).1.getLsbD i = (v.getLsbD i || decide (k ≤ i) && (answer s (i - k)).getLsbD 0) := by
  induction n generalizing k v s with
  | zero => simp [randomLoop, show ¬ k ≤ i by omega]
  | succ n ih =>
    obtain rfl : k = 31 - n := by omega
    rw [randomLoop, ih (k := 31 - n + 1) (by omega), BitVec.getLsbD_or, getLsbD_pollBit _ hi, regRead_eq, wait_eq]
    simp only [answer_after, Nat.zero_add]
    generalize 31 - n = k
    rcases Nat.lt_trichotomy i k with hlt | rfl | hgt
    · simp [hlt.ne, show ¬ k + 1 ≤ i by omega, show ¬ k ≤ i by omega]
    · simp
    · simp [hgt.ne', hgt.le, show k + 1 ≤ i from hgt, show 1 + (i - (k + 1)) = i - k by omega]

/-- The LoRa interrupts masked and the receiver on: the chip before the first poll of `RANDOM`. -/
def randomReady (m : State) : State :=
  setOperationMode .receiver (regWrite m.cfg.regmap.lrIrqFlagsMask 0xFF m)

theorem randomReady_eq (m : State) : randomReady m =
    { m.after 1 (writeOf m.cfg.regmap.lrIrqFlagsMask 0xFF :: modeEvents m.cfg (answer m) 0 .receiver) with
      gpio := pinsDriven m.cfg.wiring (modeLevels m.cfg .receiver (answer m 0)) m.gpio } := by
  rw [randomReady, regWrite_eq, setOperationMode_since (s := m) (u := m.after 0 _) (n := 0) rfl rfl rfl,
    modeReads_receiver, after_after]
  rfl

theorem exec_random (s : State) : exec .random s =
    let v := randomLoop 32 0 (randomReady (s.withModem .lora))
    .next (respond (le32 v.1) (sleepOp v.2)) := by
  rw [← setModem_eq]
  rfl

theorem answer_randomReady (m : State) : answer (randomReady m) = fun i => answer m (1 + i) := by
  rw [randomReady_eq]
  exact answer_of_drop rfl rfl

/-- `RANDOM` from the state `SET_MODEM` leaves. -/
theorem respond_sleepOp_randomLoop (m : State) (v : Word) (result : List Byte) :
    respond result (sleepOp (randomLoop 32 v (randomReady m)).2) =
      { m.after 34 (writeOf m.cfg.regmap.lrIrqFlagsMask 0xFF :: modeEvents m.cfg (answer m) 0 .receiver
          ++ randomEvents m.cfg (answer m) 1 32
          ++ .timerCancel :: modeEvents m.cfg (answer m) 33 .sleep ++ [okResponse result]) with
        state := .idle, timer := .disarmed,
        gpio := pinsDriven m.cfg.wiring (lowPowerPins m.cfg.wiring)
          (pinsDriven m.cfg.wiring (modeLevels m.cfg .receiver (answer m 0)) m.gpio) } := by
  have hcfg : (randomReady m).cfg = m.cfg := by rw [randomReady_eq]; rfl
  have hanswers : (randomReady m).answers = m.answers.drop 1 := by rw [randomReady_eq]; rfl
  have hreads : (randomReady m).reads = m.reads + 1 := by rw [randomReady_eq]; rfl
  rw [randomLoop_state, respond_sleepOp_since hcfg hanswers hreads, answer_randomReady, hcfg, randomReady_eq]
  refine State.ext_trace rfl ?_ rfl ?_
  · simp only [State.after, List.drop_drop]
  · simp only [State.after_hist, randomEvents, Nat.zero_add, List.append_assoc]

end Sys2Proof.Machine

section

open Sys2Proof Sys2Proof.Machine

/-- Settles O49: 32 polls from bit 0 on, between the receive mode and the sleep. -/
theorem random : Obligations.Random := by
  intro s m
  have hcfg : m.cfg = s.cfg := withModem_cfg s .lora
  refine ⟨(randomLoop 32 0 (randomReady m)).1, fun i hi => ?_, ?_⟩
  · rw [randomLoop_value (k := 0) rfl 0 _ hi, answer_randomReady]
    simp
  · rw [exec_random, ← hcfg]
    exact congrArg Host.Outcome.next (respond_sleepOp_randomLoop m 0 _)

end

namespace Sys2Proof.Machine

/-! ### `PERFORM_CARRIER_SENSE` (R227) -/

theorem pollBound_of_pos {p : Nat} (hp : 0 < p) (d : Word) : pollBound p d = d.toNat / p := if_neg hp.ne'

/-- The channel set, the receiver on and one draw taken: the chip before the first poll of `PERFORM_CARRIER_SENSE`. -/
def senseReady (freq : Word) (m : State) : State :=
  { wait m.cfg.pollMs (setOperationMode .receiver (setChannelOp freq m)) with
    draws := m.draws.drop 1, drawn := m.drawn + 1 }

theorem senseReady_eq (freq : Word) (m : State) :
    let seq := channelWrites m.cfg freq
    senseReady freq m = { m.after (seqReads seq + 1) (seqEvents (answer m) 0 seq
        ++ modeEvents m.cfg (answer m) (seqReads seq) .receiver ++ [.wait m.cfg.pollMs]) with
      channel := freq, draws := m.draws.drop 1, drawn := m.drawn + 1,
      gpio := pinsDriven m.cfg.wiring (modeLevels m.cfg .receiver (answer m (seqReads seq))) m.gpio } := by
  intro seq
  have hchannel : setChannelOp freq m = { m.after (seqReads seq) (seqEvents (answer m) 0 seq) with channel := freq } :=
    setChannelOp_eq freq m
  rw [senseReady, setOperationMode_since (s := m) (u := setChannelOp freq m) (n := seqReads seq)
    (by rw [hchannel]; rfl) (by rw [hchannel]; rfl) (by rw [hchannel]; rfl), modeReads_receiver, hchannel]
  refine State.ext_trace rfl ?_ rfl ?_
  · simp only [wait_answers, State.after, List.drop_drop]
  · simp only [wait_hist, State.after_hist, List.append_assoc]

theorem answer_senseReady (freq : Word) (m : State) :
    answer (senseReady freq m) = fun k => answer m (seqReads (channelWrites m.cfg freq) + 1 + k) := by
  rw [senseReady_eq]
  exact answer_of_drop rfl rfl

/-- `PERFORM_CARRIER_SENSE` after its `SET_MODEM`: the draw bounds the polls, and they decide the answer. -/
theorem exec_performCarrierSense {modem : ModemKind} {freq : Word} {threshold : Half} {duration : Word} {s t : State}
    {free : Bool} (hloop : senseLoop modem threshold.toInt
      (min (s.draws.headD (Config.pollDraw s.drawn)) (pollBound s.cfg.pollMs duration))
      (senseReady freq (s.withModem modem)) = (free, t)) :
    exec (.performCarrierSense modem freq threshold duration) s = .next (respond [boolByte free] (sleepOp t)) := by
  have hdraws : (setOperationMode .receiver (setChannelOp freq (s.withModem modem))).draws = s.draws := by
    rw [setOperationMode_eq, setChannelOp_eq]
    exact withModem_draws s modem
  have hdrawn : (setOperationMode .receiver (setChannelOp freq (s.withModem modem))).drawn = s.drawn := by
    rw [setOperationMode_eq, setChannelOp_eq]
    exact withModem_drawn s modem
  change execPerformCarrierSense modem freq threshold duration s = _
  simp only [senseReady, withModem_draws, withModem_drawn, withModem_cfg] at hloop
  simp only [execPerformCarrierSense, drawPolls, setModem_eq, wait_draws, wait_drawn, hdraws, hdrawn, hloop]

/-- The polls and the sleep, from the state `SET_MODEM` leaves. -/
theorem respond_sleepOp_sensed (freq : Word) (m : State) (j : Nat) (polls : List Event) (result : List Byte) :
    let seq := channelWrites m.cfg freq
    let n := seqReads seq
    respond result (sleepOp ((senseReady freq m).after j polls)) =
      { m.after (n + 1 + j + 1) (seqEvents (answer m) 0 seq ++ modeEvents m.cfg (answer m) n .receiver
          ++ [.wait m.cfg.pollMs] ++ polls ++ .timerCancel :: modeEvents m.cfg (answer m) (n + 1 + j) .sleep
          ++ [okResponse result]) with
        channel := freq, state := .idle, timer := .disarmed, draws := m.draws.drop 1, drawn := m.drawn + 1,
        gpio := pinsDriven m.cfg.wiring (lowPowerPins m.cfg.wiring)
          (pinsDriven m.cfg.wiring (modeLevels m.cfg .receiver (answer m n)) m.gpio) } := by
  intro seq n
  have hcfg : (senseReady freq m).cfg = m.cfg := by rw [senseReady_eq]; rfl
  have hanswers : (senseReady freq m).answers = m.answers.drop (n + 1) := by rw [senseReady_eq]; rfl
  have hreads : (senseReady freq m).reads = m.reads + (n + 1) := by rw [senseReady_eq]; rfl
  rw [respond_sleepOp_since hcfg hanswers hreads, senseReady_eq]
  refine State.ext_trace rfl ?_ ?_ ?_
  · simp only [State.after, List.drop_drop, Nat.add_assoc, n, seq]
  · simp only [State.after, Nat.add_assoc, n, seq]
  · simp only [State.after_hist, List.append_assoc, n, seq]

end Sys2Proof.Machine

section

open Sys2Proof Sys2Proof.Machine

/-- Settles O50: the draw is `N`, and the polls stop as `senseLoop_spec` says. -/
theorem carrierSense : Obligations.CarrierSense := by
  intro s modem freq threshold duration m seq n addr rssi
  have hcfg : m.cfg = s.cfg := withModem_cfg s modem
  have haddr : rssiAddr s.cfg modem = addr := by cases modem <;> rfl
  have hrssi (k : Nat) : rssiDbm s.cfg (answer m (n + 1 + k)) modem = rssi k := by cases modem <;> rfl
  have hready : (senseReady freq m).cfg = s.cfg := by rw [senseReady_eq]; exact hcfg
  have hanswer : answer (senseReady freq m) = fun k => answer m (n + 1 + k) := by rw [answer_senseReady, hcfg]
  obtain ⟨j, free, hj, hall, hstop, hloop⟩ := senseLoop_spec modem threshold.toInt
    (min (s.draws.headD (Config.pollDraw s.drawn)) (pollBound s.cfg.pollMs duration)) (senseReady freq m)
  simp only [hanswer, hready, hrssi, haddr] at hall hstop hloop
  refine ⟨_, j, free, fun hpos => ?_, hj, fun d rest hpos hdraws => ?_, hall, hstop, ?_⟩
  · rw [pollBound_of_pos hpos]
    exact Nat.min_le_right _ _
  · rw [pollBound_of_pos hpos, hdraws]
    rfl
  · have hend := respond_sleepOp_sensed freq m j
      (senseEvents addr s.cfg (fun k => answer m (n + 1 + k)) j free) [boolByte free]
    rw [hcfg, withModem_draws, withModem_drawn] at hend
    exact (exec_performCarrierSense hloop).trans (congrArg Host.Outcome.next hend)

end

namespace Sys2Proof.Machine

/-! ### `SET_TX_CONTINUOUS_WAVE` (R228) -/

theorem cwTimeout_toNat {unit : Nat} {duration : Half} (h : duration.toNat * unit < 2 ^ 32) :
    (cwTimeout unit duration).toNat = duration.toNat * unit := by
  rw [cwTimeout, if_pos h, BitVec.toNat_ofNat, Nat.mod_eq_of_lt h]

theorem storeTxConfig_cwArgs (power : Byte) (ms : Word) (s : State) : storeTxConfig (cwArgs power ms) s =
    { s with fsk := { s.fsk with
      power := power, freqDev := 0, bandwidth := 0, datarate := 4800, preambleLen := 5, fixLen := false, crcOn := false,
      freqHopOn := false, hopPeriod := 0, iqInverted := false, txTimeout := ms } } := rfl

theorem exec_setTxContinuousWave {freq : Word} {power : Byte} {duration : Half} {ms : Word} {s t : State}
    (hms : cwTimeout s.cfg.cwDurationUnitMs duration = ms)
    (hconfig : setTxConfigOp (cwArgs power ms) (setChannelOp freq s) = t) :
    exec (.setTxContinuousWave freq power duration) s = .next (respond [] (setOperationMode .transmitter
      (timerStart ms { applySeq t.cfg.chipSeq.cwMap t with state := .txRunning }))) := by
  subst hms hconfig
  rfl

/-- How a continuous wave starts, once the settings stand in `u`: `CW_MAP`, the timer, then the transmit mode. -/
theorem respond_transmitter_cwMap (u : State) (n : Nat) (before : List Event) (ms : Word) :
    let k := n + seqReads u.cfg.chipSeq.cwMap
    respond [] (setOperationMode .transmitter
        (timerStart ms { applySeq u.cfg.chipSeq.cwMap (u.after n before) with state := .txRunning })) =
      { u.after (k + modeReads u.cfg .transmitter) (before ++ seqEvents (answer u) n u.cfg.chipSeq.cwMap
          ++ [.timerStart ms] ++ modeEvents u.cfg (answer u) k .transmitter ++ [okResponse []]) with
        state := .txRunning, timer := .armed ms,
        gpio := pinsDriven u.cfg.wiring (modeLevels u.cfg .transmitter (answer u k)) u.gpio } := by
  intro k
  rw [applySeq_after]
  have hmode := setOperationMode_since (s := u) (n := k) (u := timerStart ms
    { u.after k (before ++ seqEvents (answer u) n u.cfg.chipSeq.cwMap) with state := .txRunning })
    rfl rfl rfl .transmitter
  rw [hmode, respond_eq]
  refine State.ext_trace rfl ?_ ?_ ?_
  · simp only [State.after, timerStart_answers, List.drop_drop, Nat.add_zero]
  · simp only [State.after, timerStart_reads, Nat.add_assoc, Nat.add_zero]
  · simp only [State.after_hist, timerStart_hist, List.append_assoc]

end Sys2Proof.Machine

section

open Sys2Proof Sys2Proof.Machine

/-- Settles O51: the timeout armed is the one stored with the settings. -/
theorem continuousWave : Obligations.ContinuousWave := by
  intro s freq power duration seq c m
  refine ⟨cwTimeout s.cfg.cwDurationUnitMs duration, cwTimeout_toNat, ?_⟩
  generalize hms : cwTimeout s.cfg.cwDurationUnitMs duration = ms
  intro u w n k
  have hc : setChannelOp freq s = c := setChannelOp_eq freq s
  have hcfg : u.cfg = s.cfg := withModem_cfg c .fsk
  have hu : storeTxConfig (cwArgs power ms) (c.withModem .fsk) = u := by
    rw [storeTxConfig_cwArgs, withModem_fsk]
    rfl
  have hw : txConfigWrites (cwArgs power ms).modem u = w := by
    change txConfigWrites .fsk u = w
    rw [txConfigWrites, hcfg]
  have hconfig : setTxConfigOp (cwArgs power ms) (setChannelOp freq s) = u.after n
      (powerEvents s.cfg (answer m) 0 power ++ seqEvents (answer m) 2 w) := by
    rw [hc, setTxConfigOp_eq hu, hw]
    rfl
  have hcw := respond_transmitter_cwMap u n (powerEvents s.cfg (answer m) 0 power ++ seqEvents (answer m) 2 w) ms
  rw [hcfg] at hcw
  refine (exec_setTxContinuousWave hms hconfig).trans ?_
  rw [State.after_cfg, hcfg]
  exact congrArg Host.Outcome.next hcw

end

/-! The agents' steps (60_exceptions.md): the latch, the expiry, the take, the batch and the dispatch, each as one step
of the schedule. -/

namespace Sys2Proof.Machine

/-! ### Latch and timer (R246, R247) -/

section AgentSteps

variable {s : State}

/-- The bit of an event, as the model and as the rules write it (R25). -/
theorem ofNat_two_pow (w i : Nat) : BitVec.ofNat w (2 ^ i) = 1#w <<< i := by
  change _ = BitVec.twoPow w i
  exact BitVec.eq_of_toNat_eq ((BitVec.toNat_ofNat _ _).trans (BitVec.toNat_twoPow w i).symm)

theorem setPending_eq (i : Nat) (s : State) :
    setPending i s = { s with pending := s.pending ||| ((1 : EventVec) <<< i) } := by
  rw [setPending, ofNat_two_pow]
  rfl

theorem latchEdge_eq (line : Fin 6) (s : State) : latchEdge line s =
    { s with pending := if s.irqArmed then s.pending ||| ((1 : EventVec) <<< line.val) else s.pending } := by
  rw [latchEdge, setPending_eq]
  split <;> rfl

theorem expire_of_armed {ms : Word} (h : s.timer = .armed ms) :
    expire s = { s with pending := s.pending ||| 0x40, timer := .disarmed } := by
  rw [expire, h]
  rfl

theorem wake_of_enabled (hp : s.cfg.workerPresent = true) (hw : s.worker = .waiting) (hb : s.pending ≠ 0) :
    wake s = { s with pending := 0, worker := .holding s.pending } := by
  have hon : wakeEnabled s = true := by
    rw [wakeEnabled, hp, hw, bne_iff_ne.2 hb]
    rfl
  exact if_pos hon

/-! ### A batch as a fold (R245, R250) -/

theorem andThen_assoc (o : Result) (f g : State → Result) :
    andThen (andThen o f) g = andThen o (fun t => andThen (f t) g) := by
  cases o <;> rfl

/-- Each handler runs on what the ones before it left; a stop stays the outcome. -/
theorem foldl_andThen_exec (l : List Instr) (o : Result) :
    l.foldl (fun o i => andThen o (exec i)) o = andThen o (runHandlers l) := by
  induction l generalizing o with
  | nil => cases o <;> rfl
  | cons i l ih => rw [List.foldl_cons, ih, andThen_assoc]; rfl

theorem foldl_exec_next (l : List Instr) (s : State) :
    l.foldl (fun o i => andThen o (exec i)) (.next s) = runHandlers l s := foldl_andThen_exec l (.next s)

theorem andThen_next_eq_mapNext (o : Result) (f : State → State) : andThen o (fun t => .next (f t)) = mapNext f o := by
  cases o <;> rfl

theorem runBatch_of_held {b : EventVec} (h : heldBatch s = some b) :
    runBatch s = mapNext endBatch (runHandlers (decodeBatch b) s) := by
  rw [runBatch, h]
  exact andThen_next_eq_mapNext _ endBatch

theorem dispatchBatch_of_some {b : EventVec} (h : directBatch s = some b) :
    dispatchBatch s = runHandlers (decodeBatch b) { s with pending := 0 } := by
  rw [dispatchBatch, h]

theorem dispatchBatchExpiring_of_some {b : EventVec} (h : directBatch s = some b) :
    dispatchBatchExpiring s = runHandlers (decodeBatch b) (expire { s with pending := 0 }) := by
  rw [dispatchBatchExpiring, h]

end AgentSteps

end Sys2Proof.Machine

section

open Sys2Proof Sys2Proof.Machine

/-- Settles O9: `latchEdge_eq` on the state whose schedule has moved on. -/
theorem edgeLatch : Obligations.EdgeLatch := fun s rest line =>
  congrArg Host.Outcome.next (latchEdge_eq line { s with inputs := rest })

/-- Settles O10: `expire_of_armed` has no hypothesis on the latch's arming or on the lock. -/
theorem timerExpiry : Obligations.TimerExpiry := fun s rest _ h =>
  congrArg Host.Outcome.next (expire_of_armed (s := { s with inputs := rest }) h)

/-- Settles O11: `wake_of_enabled` has no hypothesis on the lock. -/
theorem workerTake : Obligations.WorkerTake := fun s rest hp hw hb =>
  congrArg Host.Outcome.next (wake_of_enabled (s := { s with inputs := rest }) hp hw hb)

/-- Settles O12: the held batch is enabled, and its run is the fold. -/
theorem workerBatch : Obligations.WorkerBatch := by
  intro s rest b hp hw hl
  rw [foldl_exec_next]
  exact runBatch_of_held (s := { s with inputs := rest }) (heldBatch_holding hp hw hl)

/-- Settles O13: the expiry between take and handlers finds the pending register cleared. -/
theorem directDispatch : Obligations.DirectDispatch := by
  intro s rest hp hb hl
  have hbatch : directBatch { s with inputs := rest } = some s.pending := directBatch_pending hp hl hb
  refine ⟨?_, fun ms hms => ?_⟩
  · rw [foldl_exec_next]
    exact dispatchBatch_of_some hbatch
  · have hexpire := expire_of_armed (s := { s with inputs := rest, pending := 0 }) hms
    rw [foldl_exec_next, show (0x40 : EventVec) = 0 ||| 0x40 by decide, ← hexpire]
    exact dispatchBatchExpiring_of_some hbatch

end

namespace Sys2Proof.Machine

/-! ### No event is lost (R249) -/

section Coming

variable {s t : State} {i : Nat}

theorem runHandlers_latches {l : List Instr} (h : runHandlers l s = .next t) :
    t.pending = s.pending ∧ t.worker = s.worker :=
  runHandlers_keeps (P := fun u => u.pending = s.pending ∧ u.worker = s.worker)
    (fun _ _ _ hu he => ⟨(exec_latches he).1.trans hu.1, (exec_latches he).2.1.trans hu.2⟩) ⟨rfl, rfl⟩ h

theorem latchEdge_pending (h : s.pending.getLsbD i = true) (line : Fin 6) :
    (latchEdge line s).pending.getLsbD i = true := by
  rw [latchEdge_eq]
  cases s.irqArmed with
  | false => exact h
  | true =>
    show (s.pending ||| _).getLsbD i = true
    rw [BitVec.getLsbD_or, h, Bool.true_or]

theorem expire_pending (h : s.pending.getLsbD i = true) : (expire s).pending.getLsbD i = true := by
  cases htm : s.timer with
  | disarmed => rwa [expire_of_disarmed htm]
  | armed ms =>
    rw [expire_of_armed htm]
    show (s.pending ||| _).getLsbD i = true
    rw [BitVec.getLsbD_or, h, Bool.true_or]

/-- The take moves a pending event into the held batch (R244). -/
theorem wake_coming (h : s.pending.getLsbD i = true) : eventComing (wake s) i := by
  rw [wake]
  split
  · exact .inr ⟨s.pending, rfl, h⟩
  · exact .inl h

theorem latchEdge_worker (line : Fin 6) (s : State) : (latchEdge line s).worker = s.worker := by rw [latchEdge_eq]

theorem expire_worker (s : State) : (expire s).worker = s.worker := by
  rw [expire]
  cases s.timer <;> rfl

/-- A worker that holds a batch takes no other (R244). -/
theorem wake_of_holding {b : EventVec} (h : s.worker = .holding b) : wake s = s :=
  wake_of_disabled (.inr (.inl (by rw [h]; exact nofun)))

/-- A pending event is pending or held after any step but a dispatch. -/
theorem runStimulus_pending_coming {x : Stimulus} (h : runStimulus x s = .next t) (hi : s.pending.getLsbD i = true) :
    eventComing t i ∨ x = .dispatch ∨ x = .dispatchExpiring := by
  have hexec {j : Instr} (he : exec j s = .next t) : eventComing t i := .inl (by rwa [(exec_latches he).1])
  cases x with
  | frame f =>
    obtain ⟨j, he⟩ | rfl := runFrame_next h
    · exact .inl (hexec he)
    · exact .inl (.inl hi)
  | edge line => exact Host.Outcome.next.inj h ▸ .inl (.inl (latchEdge_pending hi line))
  | expire => exact Host.Outcome.next.inj h ▸ .inl (.inl (expire_pending hi))
  | wake => exact Host.Outcome.next.inj h ▸ .inl (wake_coming hi)
  | run =>
    obtain ⟨b, u, -, hu, rfl⟩ | rfl := runBatch_next h
    · exact .inl (.inl ((congrArg (·.getLsbD i) (runHandlers_latches hu).1).trans hi))
    · exact .inl (.inl hi)
  | dispatch => exact .inr (.inl rfl)
  | dispatchExpiring => exact .inr (.inr rfl)
  | bus f =>
    obtain ⟨j, he⟩ := runCall_next h
    exact .inl (hexec he)
  | micro f =>
    obtain ⟨j, he⟩ := runCall_next h
    exact .inl (hexec he)

/-- A held batch is held after any step but the batch step. -/
theorem runStimulus_holding {x : Stimulus} {b : EventVec} (h : runStimulus x s = .next t) (hb : s.worker = .holding b) :
    t.worker = .holding b ∨ x = .run := by
  have hexec {j : Instr} (he : exec j s = .next t) : t.worker = .holding b := (exec_latches he).2.1.trans hb
  cases x with
  | frame f =>
    obtain ⟨j, he⟩ | rfl := runFrame_next h
    · exact .inl (hexec he)
    · exact .inl hb
  | edge line => exact Host.Outcome.next.inj h ▸ .inl ((latchEdge_worker line s).trans hb)
  | expire => exact Host.Outcome.next.inj h ▸ .inl ((expire_worker s).trans hb)
  | wake => exact Host.Outcome.next.inj h ▸ .inl ((congrArg State.worker (wake_of_holding hb)).trans hb)
  | run => exact .inr rfl
  | dispatch =>
    obtain hr | rfl := dispatchBatch_next h
    · exact .inl ((runHandlers_latches hr).2.trans hb)
    · exact .inl hb
  | dispatchExpiring =>
    obtain hr | rfl := dispatchBatchExpiring_next h
    · exact .inl (((runHandlers_latches hr).2.trans (expire_worker _)).trans hb)
    · exact .inl hb
  | bus f =>
    obtain ⟨j, he⟩ := runCall_next h
    exact .inl (hexec he)
  | micro f =>
    obtain ⟨j, he⟩ := runCall_next h
    exact .inl (hexec he)

end Coming

end Sys2Proof.Machine

section

open Sys2Proof Sys2Proof.Machine

/-- Settles O14: only a dispatch clears a pending event without holding it, only the batch step lets a held one go. -/
theorem noEventLost : Obligations.NoEventLost := by
  intro s t i h
  obtain rfl | ⟨x, rest, hx, hrun⟩ := step_next h
  · exact ⟨fun hi => .inl (.inl hi), fun b hb hi => .inl (.inr ⟨b, hb, hi⟩)⟩
  have hhead {y : Stimulus} (hy : x = y) : s.inputs.head? = some y := by rw [hx, hy]; rfl
  refine ⟨fun hi => ?_, fun b hb hi => ?_⟩
  · exact (runStimulus_pending_coming hrun hi).imp_right (Or.imp hhead hhead)
  · exact (runStimulus_holding hrun hb).imp (fun hw => .inr ⟨b, hw, hi⟩) hhead

end

namespace Sys2Proof.Machine

/-! ### The block never stops (R254, R266) -/

section Answers

variable {s : State}

/-- An outcome that is a next state. -/
def Answered (o : Result) : Prop := ∃ t, o = .next t

theorem answered_next (t : State) : Answered (.next t) := ⟨t, rfl⟩

theorem Answered.andThen {o : Result} {f : State → Result} (ho : Answered o) (hf : ∀ t, o = .next t → Answered (f t)) :
    Answered (andThen o f) := by
  obtain ⟨t, rfl⟩ := ho
  exact hf t rfl

/-- The bytes of a packet that are still to move lie in the buffer (R21, R53). -/
theorem packetInBuffer_of_ok {n : Nat} (h : FskOk s.cfg s.fskPh) (hn : n ≤ bytesLeft s) :
    packetInBuffer n s = true := by
  have hmoved := h.moved_le_size
  have hsize := h.size_le_buffer
  rw [bytesLeft] at hn
  exact (packetInBuffer_iff n s).2 ⟨hmoved, by omega⟩

/-- Learning the length keeps the packet record sound (R182). -/
theorem fskExtractLength_ok (hc : s.cfg.wellFormed = true) (h : FskOk s.cfg s.fskPh) :
    FskOk (fskExtractLength s).2.cfg (fskExtractLength s).2.fskPh :=
  (fskExtractLength_evolves (W := []) s).fskPh hc h

theorem fskComplete_answered (hc : s.cfg.wellFormed = true) (h : FskOk s.cfg s.fskPh) : Answered (fskComplete s) := by
  have hin := packetInBuffer_of_ok (fskExtractLength_ok hc h) (Nat.le_refl _)
  simp only [fskComplete, hin, if_true]
  split <;> exact answered_next _

theorem dio0RxFsk_answered (hc : s.cfg.wellFormed = true) (h : FskOk s.cfg s.fskPh) : Answered (dio0RxFsk s) := by
  rw [dio0RxFsk]
  dsimp only
  split
  · split
    · exact fskComplete_answered (s := (regRead s.cfg.regmap.irqFlags2 s).2) hc h
    · exact answered_next _
  · exact fskComplete_answered hc h

theorem dio1RxFsk_answered (hc : s.cfg.wellFormed = true) (h : FskOk s.cfg s.fskPh) : Answered (dio1RxFsk s) := by
  have hin := packetInBuffer_of_ok (fskExtractLength_ok hc h)
    (Nat.min_le_left (bytesLeft (fskExtractLength s).2) (fskExtractLength s).2.fskPh.fifoThresh.toNat)
  simp only [dio1RxFsk, hin, if_true]
  split <;> exact answered_next _

theorem dio1TxFsk_answered (h : FskOk s.cfg s.fskPh) : Answered (dio1TxFsk s) := by
  have hin := packetInBuffer_of_ok h (Nat.min_le_left (bytesLeft s) s.fskPh.chunkSize.toNat)
  simp only [dio1TxFsk, hin, if_true]
  exact answered_next _

/-- The first chunk of a body that fits the buffer fits it too (R53, R161). -/
theorem sendFsk_answered {size : Byte} (hc : s.cfg.wellFormed = true) (hfit : size.toNat ≤ s.cfg.maxDataBufferSize) :
    Answered (sendFsk size s) := by
  have hchunk := (firstChunk_le hc size.toNat).1
  have hlen := (wakeIfSleep_control { s with fskPh := { s.fskPh with nbBytes := 0, size := size.setWidth 16 } }).trans
    (sendFskLength_control _ size)
  simp only [sendFsk]
  rw [if_pos]
  · exact answered_next _
  · rw [inBuffer, decide_eq_true_eq, show State.cfg _ = s.cfg from hlen.cfg]
    omega

theorem execSend_answered (hc : s.cfg.wellFormed = true) (size : Byte) (l : List Byte) :
    Answered (execSend size l s) := by
  rw [execSend]
  split
  next hfit =>
    have hle : size.toNat ≤ s.cfg.maxDataBufferSize := by simpa [inBuffer] using hfit.2
    cases s.modem with
    | fsk => exact (sendFsk_answered (s := memWrite 0 l s) hc hle).andThen fun t _ => answered_next _
    | lora => exact answered_next _
  · exact answered_next _

theorem execDio0Irq_answered (hc : s.cfg.wellFormed = true) (h : FskOk s.cfg s.fskPh) : Answered (execDio0Irq s) := by
  rw [execDio0Irq]
  split
  · exact dio0RxFsk_answered hc h
  all_goals exact answered_next _

theorem execDio1Irq_answered (hc : s.cfg.wellFormed = true) (h : FskOk s.cfg s.fskPh) : Answered (execDio1Irq s) := by
  rw [execDio1Irq]
  split
  · exact dio1RxFsk_answered hc h
  · exact dio1TxFsk_answered h
  all_goals exact answered_next _

/-- From a good state no instruction stops the block: `SEND` and the two handlers that move packet bytes are the only
ones with a stop, and the invariant shuts it out. -/
theorem exec_answered (hs : Inv s) (i : Instr) : Answered (exec i s) := by
  obtain ⟨hc, -, hf, -⟩ := (inv_iff s).1 hs
  cases i with
  | send size l => exact execSend_answered hc size l
  | dio0Irq => exact execDio0Irq_answered hc hf
  | dio1Irq => exact execDio1Irq_answered hc hf
  | setRxConfig a =>
    change Answered (execSetRxConfig a s)
    rw [execSetRxConfig]
    split <;> exact answered_next _
  | timeOnAir m n => cases m <;> exact answered_next _
  | lock | unlock | startCad | dio2Irq | dio3Irq | dio4Irq | timeoutIrq =>
    simp only [exec, execLock, execUnlock, execStartCad, execDio2Irq, execDio3Irq, execDio4Irq, execTimeoutIrq]
    split <;> exact answered_next _
  | _ => exact answered_next _

theorem runHandlers_answered (l : List Instr) {s : State} (hs : Inv s) : Answered (runHandlers l s) := by
  induction l generalizing s with
  | nil => exact answered_next s
  | cons i l ih => exact (exec_answered hs i).andThen fun t ht => ih (exec_inv hs ht)

theorem runFrame_answered (hs : Inv s) (f : List Byte) : Answered (runFrame f s) := by
  rw [runFrame]
  split
  · exact exec_answered hs _
  · exact answered_next _

theorem runBatch_answered (hs : Inv s) : Answered (runBatch s) := by
  rw [runBatch]
  split
  · exact (runHandlers_answered _ hs).andThen fun t _ => answered_next _
  · exact answered_next s

theorem dispatchBatch_answered (hs : Inv s) : Answered (dispatchBatch s) := by
  rw [dispatchBatch]
  split
  · exact runHandlers_answered _ (hs.relatched 0 s.inputs)
  · exact answered_next s

theorem dispatchBatchExpiring_answered (hs : Inv s) : Answered (dispatchBatchExpiring s) := by
  rw [dispatchBatchExpiring]
  split
  · exact runHandlers_answered _ (expire_inv (hs.relatched 0 s.inputs))
  · exact answered_next s

theorem runStimulus_answered (hs : Inv s) {x : Stimulus} (hx : x.isAgent = true) : Answered (runStimulus x s) := by
  cases x with
  | frame f => exact runFrame_answered hs f
  | edge line => exact answered_next _
  | expire => exact answered_next _
  | wake => exact answered_next _
  | run => exact runBatch_answered hs
  | dispatch => exact dispatchBatch_answered hs
  | dispatchExpiring => exact dispatchBatchExpiring_answered hs
  | bus f => exact nomatch hx
  | micro f => exact nomatch hx

end Answers

end Sys2Proof.Machine

section

open Sys2Proof Sys2Proof.Machine

/-- Settles O21: no instruction stops from a good state, and each handler of a batch leaves a good state to the next. -/
theorem blockNeverStops : Obligations.BlockNeverStops := by
  intro s hs hagent
  cases hx : s.inputs with
  | nil => exact ⟨s, by rw [step, hx]⟩
  | cons x rest =>
    obtain ⟨t, ht⟩ := runStimulus_answered (hs.relatched s.pending rest) (hagent x rest hx)
    exact ⟨t, by rw [step, hx]; exact ht⟩

end

/-! Which callbacks the host supplied is read by `emit` alone (R258), and only a command's last rule sends a response
(R232). Both are read off one replacement: `State.sift` is a state as it stands without its callback messages and, where
they are not asked for, without its responses. Every operation that shows neither commutes with it whatever the callback
set, one that emits commutes with it where the set is empty, one that responds where responses are kept. -/

namespace Sys2Proof.Machine

/-- Whether an event is kept: a callback message never, a response on request, the rest always. -/
def Event.kept (responses : Bool) : Event → Bool
  | .callback _ => false
  | .response _ => responses
  | .busRead _ _ | .busWrite _ _ | .gpioSet _ _ | .rstLow | .rstRelease | .timerStart _ | .timerCancel | .wait _ => true

/-- `s` with the callbacks `cb` and of its history only the kept events. -/
def State.sift (s : State) (responses : Bool) (cb : EventVec) : State :=
  { s with cbSet := cb, hist := s.hist.filter (Event.kept responses) }

section Sift

variable (r : Bool) (cb : EventVec) (s : State)

/-! ### What the replacement leaves unchanged -/

@[simp] theorem State.sift_cfg : (s.sift r cb).cfg = s.cfg := rfl
@[simp] theorem State.sift_state : (s.sift r cb).state = s.state := rfl
@[simp] theorem State.sift_modem : (s.sift r cb).modem = s.modem := rfl
@[simp] theorem State.sift_fsk : (s.sift r cb).fsk = s.fsk := rfl
@[simp] theorem State.sift_lora : (s.sift r cb).lora = s.lora := rfl
@[simp] theorem State.sift_fskPh : (s.sift r cb).fskPh = s.fskPh := rfl
@[simp] theorem State.sift_lock : (s.sift r cb).lock = s.lock := rfl

@[simp] theorem memRead_sift (i n : Nat) : memRead i n (s.sift r cb) = memRead i n s := rfl
@[simp] theorem inBuffer_sift (i n : Nat) : inBuffer i n (s.sift r cb) = inBuffer i n s := rfl
@[simp] theorem configWrites_sift (c : ConfigSource) (m : ModemKind) :
    configWrites c m (s.sift r cb) = configWrites c m s := rfl
@[simp] theorem txConfigWrites_sift (m : ModemKind) : txConfigWrites m (s.sift r cb) = txConfigWrites m s := rfl
@[simp] theorem rxConfigValid_sift (a : RxConfigArgs) : rxConfigValid a (s.sift r cb) = rxConfigValid a s := rfl
@[simp] theorem receiveMode_sift : receiveMode (s.sift r cb) = receiveMode s := rfl
@[simp] theorem packetInBuffer_sift (n : Nat) : packetInBuffer n (s.sift r cb) = packetInBuffer n s := rfl
@[simp] theorem bytesLeft_sift : bytesLeft (s.sift r cb) = bytesLeft s := rfl

/-! ### Updates, branches and outcomes -/

theorem sift_withModem (v : ModemKind) :
    { s.sift r cb with modem := v } = ({ s with modem := v } : State).sift r cb := rfl
theorem sift_withState (v : RadioState) :
    { s.sift r cb with state := v } = ({ s with state := v } : State).sift r cb := rfl
theorem sift_withFskPh (v : FskPacket) :
    { s.sift r cb with fskPh := v } = ({ s with fskPh := v } : State).sift r cb := rfl
theorem sift_withLoraPh (v : LoraPacket) :
    { s.sift r cb with loraPh := v } = ({ s with loraPh := v } : State).sift r cb := rfl
theorem sift_withLora (v : LoraConfig) :
    { s.sift r cb with lora := v } = ({ s with lora := v } : State).sift r cb := rfl
theorem sift_withChannel (v : Word) :
    { s.sift r cb with channel := v } = ({ s with channel := v } : State).sift r cb := rfl

@[simp] theorem sift_ite (c : Prop) [Decidable c] (a b : State) :
    (if c then a else b).sift r cb = if c then a.sift r cb else b.sift r cb :=
  apply_ite (State.sift · r cb) c a b

/-- `f` answers from a sifted state what it answers from the state, sifted. -/
def Sifts (r : Bool) (cb : EventVec) (s : State) (f : State → Result) : Prop :=
  f (s.sift r cb) = mapNext (State.sift · r cb) (f s)

variable {r cb s} in
theorem sifts_next {f : State → State} (h : f (s.sift r cb) = (f s).sift r cb) : Sifts r cb s (fun u => .next (f u)) :=
  congrArg Host.Outcome.next h

/-! ### Events that are kept, and those that are not -/

theorem kept_of_kept_false {e : Event} (h : e.kept false = true) : e.kept r = true := by
  cases e with
  | callback _ | response _ => exact nomatch h
  | _ => rfl

variable {s} in
/-- Events that are neither callback messages nor responses. -/
theorem after_sift {l : List Event} (h : ∀ e ∈ l, e.kept false = true) (n : Nat) :
    (s.sift r cb).after n l = (s.after n l).sift r cb := by
  have hl : l.filter (Event.kept r) = l := List.filter_eq_self.2 fun e he => kept_of_kept_false r (h e he)
  simp only [State.after, State.sift, List.filter_append, hl]

variable {s} in
theorem record_sift {e : Event} (h : e.kept false = true) : record e (s.sift r cb) = (record e s).sift r cb :=
  after_sift r cb (fun _ he => List.mem_singleton.1 he ▸ h) 0

theorem record_response_sift (l : List Byte) :
    record (.response l) (s.sift true cb) = (record (.response l) s).sift true cb := by
  simp only [record, State.sift, List.filter_append]
  rfl

@[simp] theorem respond_sift (l : List Byte) : respond l (s.sift true cb) = (respond l s).sift true cb :=
  record_response_sift ..

@[simp] theorem raiseError_sift (e : Status) : raiseError e (s.sift true cb) = (raiseError e s).sift true cb :=
  record_response_sift ..

@[simp] theorem emit_sift (c : Callback) : emit c (s.sift r 0#7) = (emit c s).sift r 0#7 := by
  have hunset : emit c (s.sift r 0#7) = s.sift r 0#7 := if_neg (by simp [State.sift])
  rw [hunset, emit]
  split
  · simp only [record, State.sift, List.filter_append, List.filter_cons, Event.kept, Bool.false_eq_true, if_false,
      List.filter_nil, List.append_nil]
  · rfl

/-! ### The shared operations (Machine/Ops, Flags, Calc) -/

@[simp] theorem memWrite_sift (i : Nat) (v : List Byte) :
    memWrite i v (s.sift r cb) = (memWrite i v s).sift r cb := rfl
@[simp] theorem zeroBuffer_sift : zeroBuffer (s.sift r cb) = (zeroBuffer s).sift r cb := rfl
@[simp] theorem clearFskPacketState_sift :
    clearFskPacketState (s.sift r cb) = (clearFskPacketState s).sift r cb := rfl
@[simp] theorem wait_sift (n : Nat) : wait n (s.sift r cb) = (wait n s).sift r cb := record_sift r cb rfl
@[simp] theorem timerStart_sift (ms : Word) : timerStart ms (s.sift r cb) = (timerStart ms s).sift r cb :=
  congrArg (fun u : State => { u with timer := .armed ms }) (record_sift r cb rfl)
@[simp] theorem timerCancel_sift : timerCancel (s.sift r cb) = (timerCancel s).sift r cb :=
  congrArg (fun u : State => { u with timer := .disarmed }) (record_sift r cb rfl)
@[simp] theorem goIdle_sift : goIdle (s.sift r cb) = (goIdle s).sift r cb := by
  rw [goIdle, timerCancel_sift]; rfl

@[simp] theorem regWrite_sift (a : Addr) (v : Byte) : regWrite a v (s.sift r cb) = (regWrite a v s).sift r cb :=
  record_sift r cb rfl
theorem busRead_sift (a : Addr) (n : Nat) :
    busRead a n (s.sift r cb) = ((busRead a n s).1, (busRead a n s).2.sift r cb) :=
  congrArg (fun u : State => (answered s n, { u with answers := s.answers.drop n, reads := s.reads + n }))
    (record_sift (e := .busRead a (answered s n)) r cb rfl)
@[simp] theorem regRead_sift (a : Addr) :
    regRead a (s.sift r cb) = ((regRead a s).1, (regRead a s).2.sift r cb) := by
  rw [regRead, busRead_sift]; rfl
@[simp] theorem regSet_sift (a : Addr) (m o : Byte) : regSet a m o (s.sift r cb) = (regSet a m o s).sift r cb := by
  simp [regSet]
@[simp] theorem regWriteBurst_sift (a : Addr) (l : List Byte) :
    regWriteBurst a l (s.sift r cb) = (regWriteBurst a l s).sift r cb := by
  rw [regWriteBurst, regWriteBurst, sift_ite, busWrite, record_sift r cb rfl]
  rfl
@[simp] theorem regReadBurst_sift (a : Addr) (n : Nat) :
    regReadBurst a n (s.sift r cb) = ((regReadBurst a n s).1, (regReadBurst a n s).2.sift r cb) := by
  rw [regReadBurst, regReadBurst, busRead_sift]
  split <;> rfl
@[simp] theorem fifoWrite_sift (l : List Byte) : fifoWrite l (s.sift r cb) = (fifoWrite l s).sift r cb :=
  regWriteBurst_sift ..
@[simp] theorem fifoRead_sift (n : Nat) : fifoRead n (s.sift r cb) = ((fifoRead n s).1, (fifoRead n s).2.sift r cb) :=
  regReadBurst_sift ..
theorem applyStep_sift (x : SeqStep) : applyStep (s.sift r cb) x = (applyStep s x).sift r cb := by
  cases x with
  | w a v => exact regWrite_sift ..
  | m a x y => exact regSet_sift ..
@[simp] theorem applySeq_sift (seq : List SeqStep) : applySeq seq (s.sift r cb) = (applySeq seq s).sift r cb :=
  List.foldl_hom (State.sift · r cb) fun u x => applyStep_sift r cb u x
@[simp] theorem setRfTxPower_sift (v : Byte) : setRfTxPower v (s.sift r cb) = (setRfTxPower v s).sift r cb := by
  simp [setRfTxPower]

/-! ### The mode controller (Machine/Msc) -/

theorem gpioSet_sift (p : Pin) (b : Bool) : gpioSet p b (s.sift r cb) = (gpioSet p b s).sift r cb := by
  rw [gpioSet, gpioSet, sift_ite, record_sift r cb rfl]
  rfl
@[simp] theorem gpioSetAll_sift (l : List (Pin × Bool)) : gpioSetAll l (s.sift r cb) = (gpioSetAll l s).sift r cb :=
  List.foldl_hom (State.sift · r cb) fun u x => gpioSet_sift r cb u x.1 x.2
@[simp] theorem antennaLowPower_sift : antennaLowPower (s.sift r cb) = (antennaLowPower s).sift r cb :=
  gpioSetAll_sift ..
@[simp] theorem setAntennaSwitch_sift (m : OpMode) :
    setAntennaSwitch m (s.sift r cb) = (setAntennaSwitch m s).sift r cb := by simp [setAntennaSwitch]
@[simp] theorem drivePins_sift (m : OpMode) : drivePins m (s.sift r cb) = (drivePins m s).sift r cb := by
  cases m with
  | sleep => exact antennaLowPower_sift ..
  | standby | transmitter | receiver | receiverSingle | cad => exact setAntennaSwitch_sift ..
@[simp] theorem setOperationMode_sift (m : OpMode) :
    setOperationMode m (s.sift r cb) = (setOperationMode m s).sift r cb := by simp [setOperationMode]
@[simp] theorem sleepOp_sift : sleepOp (s.sift r cb) = (sleepOp s).sift r cb := by simp [sleepOp]
@[simp] theorem standbyOp_sift : standbyOp (s.sift r cb) = (standbyOp s).sift r cb := by simp [standbyOp]
@[simp] theorem switchModem_sift (k : ModemKind) :
    switchModem k (s.sift r cb) = (switchModem k s).sift r cb := by
  simp only [switchModem, sift_withModem, sleepOp_sift, regSet_sift, applySeq_sift]
  rfl
@[simp] theorem setModem_sift (k : ModemKind) : setModem k (s.sift r cb) = (setModem k s).sift r cb := by
  simp only [setModem, regRead_sift, sift_withModem, switchModem_sift, sift_ite]
  rfl
theorem radioReset_sift : radioReset (s.sift r cb) = (radioReset s).sift r cb := by
  rw [radioReset_eq, radioReset_eq, after_sift r cb (by simp [Event.kept])]
  rfl

/-! ### Starting an operation (Machine/Pipeline) -/

@[simp] theorem captureFifoThresh_sift : captureFifoThresh (s.sift r cb) = (captureFifoThresh s).sift r cb := by
  rw [captureFifoThresh_eq, captureFifoThresh_eq, after_sift r cb (by simp [Event.kept, readOf])]
  rfl
@[simp] theorem transmit_sift (ms : Word) : transmit ms (s.sift r cb) = (transmit ms s).sift r cb := by
  rw [transmit, transmit, State.sift_modem]
  cases s.modem with
  | fsk =>
    simp only [applySeq_sift, captureFifoThresh_sift, sift_withState, timerStart_sift, setOperationMode_sift]
    rfl
  | lora =>
    simp only [applySeq_sift, sift_withState, timerStart_sift, setOperationMode_sift]
    rfl
@[simp] theorem wakeIfSleep_sift : wakeIfSleep (s.sift r cb) = (wakeIfSleep s).sift r cb := by simp [wakeIfSleep]
@[simp] theorem sendFskLength_sift (n : Byte) :
    sendFskLength n (s.sift r cb) = (sendFskLength n s).sift r cb := by simp [sendFskLength]
theorem sendFsk_sift (n : Byte) : Sifts r cb s (sendFsk n) := by
  simp only [Sifts, sendFsk, sift_withFskPh, wakeIfSleep_sift, sendFskLength_sift, inBuffer_sift, memRead_sift,
    fifoWrite_sift, transmit_sift, mapNext_ite]
  rfl
theorem sendLora_sift (n : Byte) : sendLora n (s.sift r cb) = (sendLora n s).sift r cb := by
  simp only [sendLora, sift_withLoraPh, regWrite_sift, wakeIfSleep_sift, memRead_sift, fifoWrite_sift, transmit_sift]
  rfl
@[simp] theorem receivePrepare_sift : receivePrepare (s.sift r cb) = (receivePrepare s).sift r cb := by
  rw [receivePrepare, receivePrepare, State.sift_modem]
  cases s.modem <;> simp

/-! ### Configuration and polls (Machine/Facade) -/

@[simp] theorem applyInit_sift (e : InitEntry) : applyInit (s.sift r cb) e = (applyInit s e).sift r cb := by
  simp [applyInit]
@[simp] theorem loadDefaultRegisters_sift :
    loadDefaultRegisters (s.sift r cb) = (loadDefaultRegisters s).sift r cb :=
  List.foldl_hom (State.sift · r cb) fun u e => applyInit_sift r cb u e
@[simp] theorem setChannelOp_sift (f : Word) : setChannelOp f (s.sift r cb) = (setChannelOp f s).sift r cb := by
  rw [setChannelOp, sift_withChannel, applySeq_sift]
  rfl
@[simp] theorem storeRxConfig_sift (a : RxConfigArgs) :
    storeRxConfig a (s.sift r cb) = (storeRxConfig a s).sift r cb := by
  rw [storeRxConfig, storeRxConfig]; cases a.modem <;> rfl
@[simp] theorem storeTxConfig_sift (a : TxConfigArgs) :
    storeTxConfig a (s.sift r cb) = (storeTxConfig a s).sift r cb := by
  rw [storeTxConfig, storeTxConfig]; cases a.modem <;> rfl
@[simp] theorem setTxConfigOp_sift (a : TxConfigArgs) :
    setTxConfigOp a (s.sift r cb) = (setTxConfigOp a s).sift r cb := by simp [setTxConfigOp]
@[simp] theorem setPublicNetworkOp_sift (e : Bool) :
    setPublicNetworkOp e (s.sift r cb) = (setPublicNetworkOp e s).sift r cb := by
  simp only [setPublicNetworkOp, setModem_sift, sift_withLora, regWrite_sift]
  rfl
@[simp] theorem randomLoop_sift (n : Nat) (v : Word) :
    randomLoop n v (s.sift r cb) = ((randomLoop n v s).1, (randomLoop n v s).2.sift r cb) := by
  induction n generalizing v s with
  | zero => rfl
  | succ n ih => simp [randomLoop, ih]
@[simp] theorem currentRssi_sift (m : ModemKind) :
    currentRssi m (s.sift r cb) = ((currentRssi m s).1, (currentRssi m s).2.sift r cb) := by
  cases m <;> simp [currentRssi]
@[simp] theorem senseLoop_sift (m : ModemKind) (th : Int) (n : Nat) :
    senseLoop m th n (s.sift r cb) = ((senseLoop m th n s).1, (senseLoop m th n s).2.sift r cb) := by
  induction n generalizing s with
  | zero => rfl
  | succ n ih =>
    simp only [senseLoop, currentRssi_sift, State.sift_cfg, wait_sift, ih]
    split <;> rfl
@[simp] theorem drawPolls_sift (n : Nat) :
    drawPolls n (s.sift r cb) = ((drawPolls n s).1, (drawPolls n s).2.sift r cb) := rfl

end Sift

/-! ### The commands (R232) -/

section Commands

variable (cb : EventVec) (s : State)

@[simp] theorem respondMs_sift (ms : Option Nat) : respondMs ms (s.sift true cb) = (respondMs ms s).sift true cb := by
  cases ms <;> simp [respondMs]
theorem execSend_sift (n : Byte) (l : List Byte) : Sifts true cb s (execSend n l) := by
  rw [Sifts, execSend, execSend, inBuffer_sift, memWrite_sift, State.sift_modem]
  split
  · cases s.modem with
    | fsk =>
      simp only [show sendFsk n _ = _ from sendFsk_sift ..]
      cases sendFsk n (memWrite 0 l s) with
      | next t => exact congrArg Host.Outcome.next (respond_sift ..)
      | fault _ | refused _ => rfl
    | lora => simp [sendLora_sift]
  · simp
theorem execReceive_sift : Sifts true cb s execReceive :=
  sifts_next (by
    simp only [receiveMode_sift, receivePrepare_sift, zeroBuffer_sift, sift_withState, setOperationMode_sift,
      respond_sift])
theorem execStartCad_sift : Sifts true cb s execStartCad := by
  rw [Sifts, execStartCad, execStartCad, State.sift_modem]
  cases s.modem with
  | fsk => simp
  | lora => simp only [applySeq_sift, setOperationMode_sift, sift_withState, respond_sift, mapNext_next]; rfl
theorem execSetRxConfig_sift (a : RxConfigArgs) : Sifts true cb s (execSetRxConfig a) := by
  simp [Sifts, execSetRxConfig]
theorem execSetTxContinuousWave_sift (f : Word) (v : Byte) (d : Half) :
    Sifts true cb s (execSetTxContinuousWave f v d) :=
  sifts_next (by
    simp only [setChannelOp_sift, setTxConfigOp_sift, applySeq_sift, sift_withState, timerStart_sift,
      setOperationMode_sift, respond_sift]
    rfl)
theorem execSetMaxPayloadLength_sift (m : ModemKind) (v : Byte) : Sifts true cb s (execSetMaxPayloadLength m v) := by
  cases m with
  | fsk => cases h : (setModem .fsk s).fsk.fixLen <;> simp [Sifts, execSetMaxPayloadLength, h]
  | lora => simp [Sifts, execSetMaxPayloadLength]
theorem execTimeOnAir_sift (m : ModemKind) (l : Byte) : Sifts true cb s (execTimeOnAir m l) := by
  cases m with
  | fsk =>
    refine sifts_next ?_
    rw [timeOnAirFsk, timeOnAirFsk, State.sift_fsk]
    split <;> simp
  | lora =>
    refine sifts_next ?_
    simp only [timeOnAirLora_eq, respondMs_sift, State.sift_lora]
theorem execRandom_sift : Sifts true cb s execRandom := sifts_next (by simp)
theorem execPerformCarrierSense_sift (m : ModemKind) (f : Word) (th : Half) (d : Word) :
    Sifts true cb s (execPerformCarrierSense m f th d) := sifts_next (by simp)
theorem execLock_sift : Sifts true cb s execLock := by
  rw [Sifts, execLock, execLock, State.sift_lock]
  split
  · simp
  · exact congrArg Host.Outcome.next (respond_sift cb { s with lock := s.lock + 1 } [])
theorem execUnlock_sift : Sifts true cb s execUnlock := by
  rw [Sifts, execUnlock, execUnlock, State.sift_lock]
  split
  · simp
  · exact congrArg Host.Outcome.next (respond_sift cb { s with lock := s.lock - 1 } [])

end Commands

/-! ### The handlers (Machine/Events; R258) -/

section Handlers

variable (r : Bool) (s : State)

@[simp] theorem restartRx_sift : restartRx (s.sift r 0#7) = (restartRx s).sift r 0#7 := regSet_sift ..
@[simp] theorem fskRxEnd_sift : fskRxEnd (s.sift r 0#7) = (fskRxEnd s).sift r 0#7 := by
  cases h : s.fsk.rxContinuous <;> simp [fskRxEnd, h]
@[simp] theorem fskRxAbort_sift : fskRxAbort (s.sift r 0#7) = (fskRxAbort s).sift r 0#7 := by simp [fskRxAbort]
@[simp] theorem readLength_sift : readLength (s.sift r 0#7) = ((readLength s).1, (readLength s).2.sift r 0#7) := by
  cases h : s.fsk.fixLen <;> simp [readLength, h]
@[simp] theorem fskExtractLength_sift :
    fskExtractLength (s.sift r 0#7) = ((fskExtractLength s).1, (fskExtractLength s).2.sift r 0#7) := by
  simp only [fskExtractLength, State.sift_fskPh, State.sift_cfg, readLength_sift, fskRxAbort_sift]
  split
  · split <;> rfl
  · rfl
@[simp] theorem drainFsk_sift (n : Nat) : drainFsk n (s.sift r 0#7) = (drainFsk n s).sift r 0#7 := by
  simp only [drainFsk, fifoRead_sift, memWrite_sift, sift_withFskPh]
  rfl
@[simp] theorem refillFsk_sift (n : Nat) : refillFsk n (s.sift r 0#7) = (refillFsk n s).sift r 0#7 := by
  simp only [refillFsk, memRead_sift, fifoWrite_sift, sift_withFskPh]
  rfl
@[simp] theorem captureFskReadings_sift :
    captureFskReadings (s.sift r 0#7) = (captureFskReadings s).sift r 0#7 := by
  rw [captureFskReadings_eq, captureFskReadings_eq, after_sift r 0#7 (by simp [Event.kept, readOf])]
  rfl
@[simp] theorem fskDeliver_sift : fskDeliver (s.sift r 0#7) = (fskDeliver s).sift r 0#7 := by simp [fskDeliver]
@[simp] theorem fskComplete_sift :
    fskComplete (s.sift r 0#7) = mapNext (State.sift · r 0#7) (fskComplete s) := by simp [fskComplete]
theorem dio0RxFsk_sift : Sifts r 0#7 s dio0RxFsk := by
  cases h : s.fsk.crcOn <;> simp [Sifts, dio0RxFsk, h]

@[simp] theorem loraRxEnd_sift : loraRxEnd (s.sift r 0#7) = (loraRxEnd s).sift r 0#7 := by
  cases h : s.lora.rxContinuous <;> simp [loraRxEnd, h]
@[simp] theorem loraDrain_sift (n : Byte) : loraDrain n (s.sift r 0#7) = (loraDrain n s).sift r 0#7 := by
  simp [loraDrain]
@[simp] theorem captureLoraReadings_sift :
    captureLoraReadings (s.sift r 0#7) = (captureLoraReadings s).sift r 0#7 := by
  rw [captureLoraReadings_eq, captureLoraReadings_eq, after_sift r 0#7 (by simp [Event.kept, readOf])]
  rfl
@[simp] theorem loraDeliver_sift (n : Byte) : loraDeliver n (s.sift r 0#7) = (loraDeliver n s).sift r 0#7 := by
  simp only [loraDeliver, sift_withLoraPh, loraDrain_sift, loraRxEnd_sift, memRead_sift, emit_sift]
  rfl
theorem dio0RxLora_sift : dio0RxLora (s.sift r 0#7) = (dio0RxLora s).sift r 0#7 := by simp [dio0RxLora]
theorem dio0Tx_sift : dio0Tx (s.sift r 0#7) = (dio0Tx s).sift r 0#7 := by
  rw [dio0Tx, dio0Tx, State.sift_modem]
  cases s.modem with
  | fsk => simp only [timerCancel_sift, sift_withState, emit_sift]
  | lora => simp only [timerCancel_sift, regWrite_sift, sift_withState, emit_sift]; rfl
theorem execDio0Irq_sift : Sifts r 0#7 s execDio0Irq := by
  rw [Sifts, execDio0Irq, execDio0Irq, State.sift_state, State.sift_modem]
  split
  · exact dio0RxFsk_sift ..
  · exact sifts_next (dio0RxLora_sift ..)
  · exact sifts_next (dio0Tx_sift ..)
  · rfl
  · rfl

theorem dio1RxFsk_sift : Sifts r 0#7 s dio1RxFsk := by simp [Sifts, dio1RxFsk]
theorem dio1TxFsk_sift : Sifts r 0#7 s dio1TxFsk := by simp [Sifts, dio1TxFsk]
theorem dio1RxLora_sift : dio1RxLora (s.sift r 0#7) = (dio1RxLora s).sift r 0#7 := by simp [dio1RxLora]
theorem execDio1Irq_sift : Sifts r 0#7 s execDio1Irq := by
  rw [Sifts, execDio1Irq, execDio1Irq, State.sift_state, State.sift_modem]
  split
  · exact dio1RxFsk_sift ..
  · exact dio1TxFsk_sift ..
  · exact sifts_next (dio1RxLora_sift ..)
  · rfl
  · rfl
  · rfl

theorem dio2RxFsk_sift : dio2RxFsk (s.sift r 0#7) = (dio2RxFsk s).sift r 0#7 := by simp [dio2RxFsk]
theorem dio2Lora_sift : dio2Lora (s.sift r 0#7) = (dio2Lora s).sift r 0#7 := by
  cases h : s.lora.freqHopOn <;> simp [dio2Lora, h]
theorem execDio2Irq_sift : Sifts r 0#7 s execDio2Irq := by
  rw [Sifts, execDio2Irq, execDio2Irq, State.sift_state, State.sift_modem]
  split
  · exact sifts_next (dio2RxFsk_sift ..)
  · exact sifts_next (dio2Lora_sift ..)
  · exact sifts_next (dio2Lora_sift ..)
  · rfl
  · rfl
  · rfl

theorem dio3Lora_sift : dio3Lora (s.sift r 0#7) = (dio3Lora s).sift r 0#7 := by
  rw [dio3Lora, dio3Lora, State.sift_state]
  cases s.state <;> simp
theorem execDio3Irq_sift : Sifts r 0#7 s execDio3Irq := by
  rw [Sifts, execDio3Irq, execDio3Irq, State.sift_modem]
  cases s.modem with
  | fsk => rfl
  | lora => exact sifts_next (dio3Lora_sift ..)
theorem execDio4Irq_sift : Sifts r 0#7 s execDio4Irq := by
  rw [Sifts, execDio4Irq, execDio4Irq, State.sift_modem]
  cases s.modem <;> rfl

theorem timeoutRecovery_sift : timeoutRecovery (s.sift r 0#7) = (timeoutRecovery s).sift r 0#7 := by
  simp only [timeoutRecovery, timerCancel_sift, setOperationMode_sift, loadDefaultRegisters_sift, setModem_sift,
    setPublicNetworkOp_sift, sift_withState, emit_sift]
  rfl
theorem execTimeoutIrq_sift : Sifts r 0#7 s execTimeoutIrq := by
  rw [Sifts, execTimeoutIrq, execTimeoutIrq, State.sift_state]
  cases s.state with
  | txRunning => exact sifts_next (timeoutRecovery_sift ..)
  | idle | rxRunning | cad => rfl

end Handlers

/-- An instruction other than `INIT_RADIO` runs with the callbacks unset as it does with any, but for the messages. -/
theorem exec_sift {i : Instr} (hi : ∀ k, i ≠ .initRadio k) (s : State) : Sifts true 0#7 s (exec i) := by
  have hrespond {f : State → State} (l : List Byte) (h : f (s.sift true 0#7) = (f s).sift true 0#7) :
      Sifts true 0#7 s (fun u => .next (respond l (f u))) := sifts_next (by rw [h, respond_sift])
  cases i with
  | initRadio c => exact absurd rfl (hi c)
  | setChannel f => exact hrespond [] (setChannelOp_sift ..)
  | getStatus => exact sifts_next (respond_sift 0 s [s.state.code])
  | sleep => exact hrespond [] (sleepOp_sift ..)
  | standby => exact hrespond [] (standbyOp_sift ..)
  | setRxConfig a => exact execSetRxConfig_sift ..
  | setTxConfig a => exact hrespond [] (setTxConfigOp_sift ..)
  | send n l => exact execSend_sift ..
  | receive => exact execReceive_sift ..
  | startCad => exact execStartCad_sift ..
  | setTxContinuousWave f v d => exact execSetTxContinuousWave_sift ..
  | setMaxPayloadLength m v => exact execSetMaxPayloadLength_sift ..
  | setPublicNetwork e => exact hrespond [] (setPublicNetworkOp_sift ..)
  | performCarrierSense m f th d => exact execPerformCarrierSense_sift ..
  | timeOnAir m l => exact execTimeOnAir_sift ..
  | random => exact execRandom_sift ..
  | checkRfFrequency f => exact sifts_next (respond_sift 0 s [1])
  | lock => exact execLock_sift ..
  | unlock => exact execUnlock_sift ..
  | dio0Irq => exact execDio0Irq_sift ..
  | dio1Irq => exact execDio1Irq_sift ..
  | dio2Irq => exact execDio2Irq_sift ..
  | dio3Irq => exact execDio3Irq_sift ..
  | dio4Irq => exact execDio4Irq_sift ..
  | dio5Irq => rfl
  | timeoutIrq => exact execTimeoutIrq_sift ..
  | writeRegister a v => exact sifts_next (regWrite_sift ..)
  | writeRegisters a l => exact sifts_next (regWriteBurst_sift ..)
  | readRegister a =>
    exact congrArg (fun u => Host.Outcome.next (returns (.bytes [u.1]) u.2)) (regRead_sift true 0#7 s a)
  | readRegisters a n =>
    exact congrArg (fun u => Host.Outcome.next (returns (.bytes u.1) u.2)) (regReadBurst_sift true 0#7 s a n)
  | writeFifo l => exact sifts_next (fifoWrite_sift ..)
  | readFifo n => exact congrArg (fun u => Host.Outcome.next (returns (.bytes u.1) u.2)) (fifoRead_sift true 0#7 s n)
  | setOperationMode m => exact sifts_next (setOperationMode_sift ..)
  | setModem k => exact sifts_next (setModem_sift ..)
  | radioReset => exact sifts_next (radioReset_sift ..)
  | transmit ms => exact sifts_next (transmit_sift ..)
  | setAntennaSwitch m => exact sifts_next (setAntennaSwitch_sift ..)
  | antennaLowPower => exact sifts_next (antennaLowPower_sift ..)
  | loadDefaultRegisters => exact sifts_next (loadDefaultRegisters_sift ..)
  | setRfTxPower v => exact sifts_next (setRfTxPower_sift ..)
  | fskBandwidthCode bw => rfl
  | txPowerEncode v k => rfl
  | fskTimeOnAir => rfl
  | loraTimeOnAir => rfl
  | fskRxAbort => exact sifts_next (fskRxAbort_sift ..)

/-- With responses kept, what is dropped is the callback messages. -/
theorem kept_true : Event.kept true = fun e => !e.isCallback := by
  funext e
  cases e <;> rfl

theorem mapNext_eq_next {f : State → State} {o : Result} {t : State} (h : mapNext f o = .next t) :
    ∃ u, o = .next u ∧ f u = t := by
  cases o with
  | next u => exact ⟨u, rfl, Host.Outcome.next.inj h⟩
  | fault _ | refused _ => exact nomatch h

/-- States that are one once sifted differ in the callback set and the history alone. -/
theorem eq_of_sift_eq {r : Bool} {cb : EventVec} {t u : State} (h : u.sift r cb = t.sift r cb) :
    u = { t with cbSet := u.cbSet, hist := u.hist } := by
  have hback (v : State) : { v.sift r cb with cbSet := u.cbSet, hist := u.hist } =
      { v with cbSet := u.cbSet, hist := u.hist } := rfl
  calc u = { u.sift r cb with cbSet := u.cbSet, hist := u.hist } := rfl
    _ = { t with cbSet := u.cbSet, hist := u.hist } := by rw [h, hback]

end Sys2Proof.Machine

section

open Sys2Proof Sys2Proof.Machine

/-- Settles O17: sifted, the two states are one, so the two outcomes are one once sifted. -/
theorem callbackSetUnread : Obligations.CallbackSetUnread := by
  intro i s t c hi h
  have hs : exec i (s.sift true 0#7) = .next (t.sift true 0#7) := by
    rw [show exec i (s.sift true 0#7) = _ from exec_sift hi s, h, mapNext_next]
  have hc : mapNext (State.sift · true 0#7) (exec i { s with cbSet := c }) = .next (t.sift true 0#7) :=
    (exec_sift hi { s with cbSet := c }).symm.trans hs
  obtain ⟨u, hu, hut⟩ := mapNext_eq_next hc
  obtain ⟨-, -, -, harming, -⟩ := fieldOwners i _ u hu
  obtain ⟨-, hcb⟩ := harming hi
  refine ⟨u.hist, ?_, ?_⟩
  · rw [hu, ← show u.cbSet = c from hcb]
    exact congrArg Host.Outcome.next (eq_of_sift_eq hut)
  · rw [← kept_true]
    exact congrArg State.hist hut

end

/-! A command's response is its last event (R232, R255). What comes before it is no message to the host: the operations
a command is made of append to the history (`_recall`) and keep every event in it when messages are dropped (`_sift`). -/

namespace Sys2Proof.Machine

/-- The block shows events from `s` to `t`, none of them a response or a callback message. -/
def NoMessage (s t : State) : Prop := ∃ ev, t.hist = s.hist ++ ev ∧ ∀ e ∈ ev, e.kept false = true

section NoMessage

variable {s t u : State}

theorem noMessage_of_hist (h : t.hist = s.hist) : NoMessage s t := ⟨[], by rw [h, List.append_nil], nofun⟩

theorem NoMessage.trans (h : NoMessage s t) (h' : NoMessage t u) : NoMessage s u := by
  obtain ⟨ev, hh, hk⟩ := h
  obtain ⟨ev', hh', hk'⟩ := h'
  exact ⟨ev ++ ev', by rw [hh', hh, List.append_assoc], fun e he => (List.mem_append.1 he).elim (hk e) (hk' e)⟩

/-- An operation that only appends to the history, and loses nothing of what it appends when messages are dropped. From
the state without a past, what it leaves in the history is what it shows. -/
theorem onNext_noMessage {f : State → Result}
    (hrecall : ∀ past u, f (u.recall past) = mapNext (State.recall · past) (f u))
    (hsift : ∀ cb u, Sifts false cb u f) (s : State) : OnNext (NoMessage s) (f s) := by
  have hpast : s = State.recall { s with hist := [] } s.hist := by rw [State.recall, List.append_nil]
  have hkept : f { s with hist := [] } = mapNext (State.sift · false s.cbSet) (f { s with hist := [] }) :=
    hsift s.cbSet { s with hist := [] }
  have hrun : f s = mapNext (State.recall · s.hist) (f { s with hist := [] }) := by
    rw [← hrecall, ← hpast]
  rw [hrun]
  cases hfresh : f { s with hist := [] } with
  | next t =>
    rw [hfresh] at hkept
    have hfilter : t.hist.filter (Event.kept false) = t.hist :=
      congrArg State.hist (Host.Outcome.next.inj hkept).symm
    exact ⟨t.hist, rfl, List.filter_eq_self.1 hfilter⟩
  | fault _ | refused _ => trivial

theorem noMessage_of {f : State → State} (hrecall : ∀ past u, f (u.recall past) = (f u).recall past)
    (hsift : ∀ cb u, f (u.sift false cb) = (f u).sift false cb) (s : State) : NoMessage s (f s) :=
  onNext_noMessage (f := fun u => .next (f u)) (fun past u => next_recall past (hrecall past u))
    (fun cb u => sifts_next (hsift cb u)) s

/-! ### The operations of the commands -/

variable (s)

theorem regWrite_noMessage (a : Addr) (v : Byte) : NoMessage s (regWrite a v s) :=
  noMessage_of (fun past u => regWrite_recall past u a v) (fun cb u => regWrite_sift false cb u a v) s

theorem wait_noMessage (n : Nat) : NoMessage s (wait n s) :=
  noMessage_of (fun past u => wait_recall past u n) (fun cb u => wait_sift false cb u n) s

theorem timerStart_noMessage (ms : Word) : NoMessage s (timerStart ms s) :=
  noMessage_of (fun past u => timerStart_recall past u ms) (fun cb u => timerStart_sift false cb u ms) s

theorem goIdle_noMessage : NoMessage s (goIdle s) :=
  noMessage_of goIdle_recall (fun cb u => goIdle_sift false cb u) s

theorem applySeq_noMessage (seq : List SeqStep) : NoMessage s (applySeq seq s) :=
  noMessage_of (fun past u => applySeq_recall past u seq) (fun cb u => applySeq_sift false cb u seq) s

theorem setOperationMode_noMessage (m : OpMode) : NoMessage s (setOperationMode m s) :=
  noMessage_of (fun past u => setOperationMode_recall past u m) (fun cb u => setOperationMode_sift false cb u m) s

theorem sleepOp_noMessage : NoMessage s (sleepOp s) :=
  noMessage_of sleepOp_recall (fun cb u => sleepOp_sift false cb u) s

theorem standbyOp_noMessage : NoMessage s (standbyOp s) :=
  noMessage_of standbyOp_recall (fun cb u => standbyOp_sift false cb u) s

theorem setModem_noMessage (k : ModemKind) : NoMessage s (setModem k s) :=
  noMessage_of (fun past u => setModem_recall past u k) (fun cb u => setModem_sift false cb u k) s

theorem radioReset_noMessage : NoMessage s (radioReset s) :=
  noMessage_of radioReset_recall (fun cb u => radioReset_sift false cb u) s

theorem loadDefaultRegisters_noMessage : NoMessage s (loadDefaultRegisters s) :=
  noMessage_of loadDefaultRegisters_recall (fun cb u => loadDefaultRegisters_sift false cb u) s

theorem setChannelOp_noMessage (f : Word) : NoMessage s (setChannelOp f s) :=
  noMessage_of (fun past u => setChannelOp_recall past u f) (fun cb u => setChannelOp_sift false cb u f) s

theorem storeRxConfig_noMessage (a : RxConfigArgs) : NoMessage s (storeRxConfig a s) :=
  noMessage_of (fun past u => storeRxConfig_recall past u a) (fun cb u => storeRxConfig_sift false cb u a) s

theorem setTxConfigOp_noMessage (a : TxConfigArgs) : NoMessage s (setTxConfigOp a s) :=
  noMessage_of (fun past u => setTxConfigOp_recall past u a) (fun cb u => setTxConfigOp_sift false cb u a) s

theorem setPublicNetworkOp_noMessage (e : Bool) : NoMessage s (setPublicNetworkOp e s) :=
  noMessage_of (fun past u => setPublicNetworkOp_recall past u e) (fun cb u => setPublicNetworkOp_sift false cb u e) s

theorem sendFsk_noMessage (n : Byte) : OnNext (NoMessage s) (sendFsk n s) :=
  onNext_noMessage (fun past u => sendFsk_recall past u n) (fun cb u => sendFsk_sift false cb u n) s

theorem sendLora_noMessage (n : Byte) : NoMessage s (sendLora n s) :=
  noMessage_of (fun past u => sendLora_recall past u n) (fun cb u => sendLora_sift false cb u n) s

theorem receivePrepare_noMessage : NoMessage s (receivePrepare s) :=
  noMessage_of receivePrepare_recall (fun cb u => receivePrepare_sift false cb u) s

theorem randomLoop_noMessage (n : Nat) (v : Word) : NoMessage s (randomLoop n v s).2 :=
  noMessage_of (f := fun u => (randomLoop n v u).2) (fun past u => congrArg Prod.snd (randomLoop_recall past u n v))
    (fun cb u => congrArg Prod.snd (randomLoop_sift false cb u n v)) s

theorem senseLoop_noMessage (m : ModemKind) (th : Int) (n : Nat) : NoMessage s (senseLoop m th n s).2 :=
  noMessage_of (f := fun u => (senseLoop m th n u).2) (fun past u => congrArg Prod.snd (senseLoop_recall past u m th n))
    (fun cb u => congrArg Prod.snd (senseLoop_sift false cb u m th n)) s

end NoMessage

/-! ### The one response -/

/-- What `RaiseChangesNothing` says of a command that takes `s` to `t`. -/
def Responds (s t : State) : Prop :=
  ∃ ev status result, t.hist = s.hist ++ ev ++ [.response (status :: result)] ∧
    (∀ r, Event.response r ∉ ev) ∧ (∀ m, Event.callback m ∉ ev) ∧
    (status = 0x00 ∨ (status ∈ [0x01, 0x02] ∧ t = s.after 0 [.response [status]]))

section Responds

variable {s u : State}

theorem NoMessage.respond (h : NoMessage s u) (l : List Byte) : Responds s (respond l u) := by
  obtain ⟨ev, hh, hk⟩ := h
  have hresponse (r : List Byte) : Event.response r ∉ ev := fun hr => nomatch hk _ hr
  have hcallback (m : List Byte) : Event.callback m ∉ ev := fun hm => nomatch hk _ hm
  exact ⟨ev, 0x00, l, by rw [← hh]; rfl, hresponse, hcallback, .inl rfl⟩

theorem respond_responds (s : State) (l : List Byte) : Responds s (respond l s) :=
  (noMessage_of_hist (s := s) rfl).respond l

/-- A raise is one status byte on the state as it was (R255). -/
theorem raised_responds {status : Byte} (h : status ∈ [0x01, 0x02]) (s : State) :
    Responds s (s.after 0 [.response [status]]) :=
  ⟨[], status, [], by rw [List.append_nil]; rfl, nofun, nofun, .inr ⟨h, rfl⟩⟩

theorem raiseError_responds {e : Status} (h : statusByte e ∈ [0x01, 0x02]) (s : State) :
    Responds s (raiseError e s) := raised_responds h s

theorem respondMs_responds (ms : Option Nat) (s : State) : Responds s (respondMs ms s) := by
  by_cases h : ∃ w : Word, ms = some w.toNat
  · obtain ⟨w, rfl⟩ := h
    rw [respondMs_word]
    exact respond_responds s _
  · rw [respondMs_of_not_word h]
    exact raised_responds (by decide) s

variable (s)

theorem execInitRadio_responds (c : Byte) : OnNext (Responds s) (execInitRadio c s) :=
  have hcb : NoMessage s { s with cbSet := c.setWidth 7 } := noMessage_of_hist rfl
  have harm (u : State) : NoMessage u { u with irqArmed := true } := noMessage_of_hist rfl
  ((((((hcb.trans (radioReset_noMessage _)).trans (setOperationMode_noMessage _ _)).trans
    (loadDefaultRegisters_noMessage _)).trans (setModem_noMessage _ _)).trans (goIdle_noMessage _)).trans
    (harm _)).respond []

theorem execSetRxConfig_responds (a : RxConfigArgs) : OnNext (Responds s) (execSetRxConfig a s) := by
  rw [execSetRxConfig]
  split
  · exact (((setModem_noMessage s _).trans (storeRxConfig_noMessage _ a)).trans (applySeq_noMessage _ _)).respond []
  · exact raiseError_responds (by decide) s

theorem execSend_responds (n : Byte) (l : List Byte) : OnNext (Responds s) (execSend n l s) := by
  have hmem : NoMessage s (memWrite 0 l s) := noMessage_of_hist rfl
  rw [execSend]
  split
  · cases s.modem with
    | fsk =>
      refine onNext_of fun t ht => ?_
      obtain ⟨u, hu, ht⟩ := andThen_next ht
      obtain rfl := Host.Outcome.next.inj ht
      exact (hmem.trans ((sendFsk_noMessage _ n).next hu)).respond []
    | lora => exact (hmem.trans (sendLora_noMessage _ n)).respond []
  · exact raiseError_responds (by decide) s

theorem execReceive_responds : OnNext (Responds s) (execReceive s) :=
  have hstore (u : State) : NoMessage u { zeroBuffer u with state := .rxRunning } := noMessage_of_hist rfl
  (((receivePrepare_noMessage s).trans (hstore _)).trans (setOperationMode_noMessage _ _)).respond []

theorem execStartCad_responds : OnNext (Responds s) (execStartCad s) := by
  have henter (u : State) : NoMessage u { u with state := .cad } := noMessage_of_hist rfl
  rw [execStartCad]
  cases s.modem with
  | fsk => exact respond_responds s []
  | lora => exact (((applySeq_noMessage s _).trans (setOperationMode_noMessage _ _)).trans (henter _)).respond []

theorem execSetTxContinuousWave_responds (f : Word) (p : Byte) (d : Half) :
    OnNext (Responds s) (execSetTxContinuousWave f p d s) :=
  have henter (u : State) : NoMessage u { u with state := .txRunning } := noMessage_of_hist rfl
  ((((((setChannelOp_noMessage s f).trans (setTxConfigOp_noMessage _ _)).trans (applySeq_noMessage _ _)).trans
    (henter _)).trans (timerStart_noMessage _ _)).trans (setOperationMode_noMessage _ _)).respond []

theorem execSetMaxPayloadLength_responds (m : ModemKind) (v : Byte) :
    OnNext (Responds s) (execSetMaxPayloadLength m v s) := by
  have hm := setModem_noMessage s m
  cases m with
  | fsk =>
    simp only [execSetMaxPayloadLength]
    split
    · exact hm.respond []
    · exact (hm.trans (regWrite_noMessage _ _ _)).respond []
  | lora => exact (hm.trans (regWrite_noMessage _ _ _)).respond []

theorem execPerformCarrierSense_responds (m : ModemKind) (f : Word) (th : Half) (d : Word) :
    OnNext (Responds s) (execPerformCarrierSense m f th d s) :=
  have hdraw (n : Nat) (u : State) : NoMessage u (drawPolls n u).2 := noMessage_of_hist rfl
  (((((((setModem_noMessage s m).trans (setChannelOp_noMessage _ f)).trans (setOperationMode_noMessage _ _)).trans
    (wait_noMessage _ _)).trans (hdraw _ _)).trans (senseLoop_noMessage _ _ _ _)).trans (sleepOp_noMessage _)).respond _

theorem execRandom_responds : OnNext (Responds s) (execRandom s) :=
  (((((setModem_noMessage s .lora).trans (regWrite_noMessage _ _ _)).trans (setOperationMode_noMessage _ _)).trans
    (randomLoop_noMessage _ _ _)).trans (sleepOp_noMessage _)).respond _

/-- The FSK airtime always fits the answer, so nothing is raised after its two reads (R222). -/
theorem timeOnAirFsk_responds (n : Byte) : Responds s (timeOnAirFsk n s) := by
  obtain ⟨-, hairtime⟩ := timeOnAir
  obtain ⟨-, hfsk, -⟩ := hairtime s n
  by_cases hrate : s.fsk.datarate = 0
  · rw [timeOnAirFsk_zero hrate]
    exact raised_responds (by decide) s
  · obtain ⟨ms, -, hrun⟩ := hfsk hrate
    have hreads : NoMessage s (s.after 2 [readOf s.cfg.regmap.syncConfig (answer s 0),
        readOf s.cfg.regmap.packetConfig1 (answer s 1)]) := ⟨_, rfl, by simp [Event.kept, readOf]⟩
    have hanswer := hreads.respond (le32 ms)
    rw [respond_eq, after_after] at hanswer
    rw [Host.Outcome.next.inj ((exec_timeOnAir_fsk n s).symm.trans hrun)]
    exact hanswer

theorem timeOnAirLora_responds (n : Byte) : Responds s (timeOnAirLora n s) := by
  rw [timeOnAirLora_eq]
  exact respondMs_responds _ s

theorem execTimeOnAir_responds (m : ModemKind) (n : Byte) : OnNext (Responds s) (execTimeOnAir m n s) := by
  cases m with
  | fsk => exact timeOnAirFsk_responds s n
  | lora => exact timeOnAirLora_responds s n

theorem execLock_responds : OnNext (Responds s) (execLock s) := by
  have hcount (n : Byte) : NoMessage s { s with lock := n } := noMessage_of_hist rfl
  rw [execLock]
  split
  · exact raiseError_responds (by decide) s
  · exact (hcount _).respond []

theorem execUnlock_responds : OnNext (Responds s) (execUnlock s) := by
  have hcount (n : Byte) : NoMessage s { s with lock := n } := noMessage_of_hist rfl
  rw [execUnlock]
  split
  · exact raiseError_responds (by decide) s
  · exact (hcount _).respond []

end Responds

/-- Every command answers once, last, and a raise is all it does. -/
theorem exec_responds {i : Instr} (hi : i.format = .command) (s : State) : OnNext (Responds s) (exec i s) := by
  cases i with
  | initRadio c => exact execInitRadio_responds s c
  | setChannel f => exact (setChannelOp_noMessage s f).respond []
  | getStatus => exact respond_responds s _
  | sleep => exact (sleepOp_noMessage s).respond []
  | standby => exact (standbyOp_noMessage s).respond []
  | setRxConfig a => exact execSetRxConfig_responds s a
  | setTxConfig a => exact (setTxConfigOp_noMessage s a).respond []
  | send n l => exact execSend_responds s n l
  | receive => exact execReceive_responds s
  | startCad => exact execStartCad_responds s
  | setTxContinuousWave f p d => exact execSetTxContinuousWave_responds s f p d
  | setMaxPayloadLength m v => exact execSetMaxPayloadLength_responds s m v
  | setPublicNetwork e => exact (setPublicNetworkOp_noMessage s e).respond []
  | performCarrierSense m f th d => exact execPerformCarrierSense_responds s m f th d
  | timeOnAir m n => exact execTimeOnAir_responds s m n
  | random => exact execRandom_responds s
  | checkRfFrequency f => exact respond_responds s _
  | lock => exact execLock_responds s
  | unlock => exact execUnlock_responds s
  | _ => exact nomatch hi

end Sys2Proof.Machine

section

open Sys2Proof Sys2Proof.Machine

/-- Settles O27: `exec_responds` reads the command as its response after operations without a message, or as a raise. -/
theorem raiseChangesNothing : Obligations.RaiseChangesNothing := fun _ s _ hi h => (exec_responds hi s).next h

end
